-- ==== Sys2Proof/Word.lean ====
section
/-! DEFINITION. The words of the KT318: the fixed-width values the Technical Data gives bits to
(00 section 4, Chapter 11). Everything else is an inductive type, a structure, a list or a number. -/

namespace Sys2Proof

/-- One byte of the local port. -/
abbrev Byte := BitVec 8

/-- An angle: 0 to 65535, taken modulo 65536 (00, 4.1). -/
abbrev Angle := BitVec 16

/-- A velocity in two's complement, -32768 to +32767 counts per epoch (00, 4.1). -/
abbrev Velocity := BitVec 16

/-- An epoch number, wrapping from 65535 to 0 (00, 4.2). -/
abbrev Epoch := BitVec 16

/-- A station set: bit k stands for station k (00, 4.2). -/
abbrev StationSet := BitVec 16

/-- A station number, 0 to 15 (00, 4.2). -/
abbrev Station := BitVec 4

/-- An axis number, 0 to 7 (00, 4.2). -/
abbrev Axis := BitVec 3

/-- A plan code, 0 to 7 (R43). -/
abbrev PlanCode := BitVec 3

/-- A round of the open window, 0 to 3 (R51). -/
abbrev RoundNumber := BitVec 2

/-- A set of the five sensor conditions: bits 4 to 0 of the fault set (Table 11-1). -/
abbrev CondSet := BitVec 5

/-- The reported part of a held set: bits 5 to 0 of the fault set (R128, Table 11-4). -/
abbrev ReportedSet := BitVec 6

/-- A set of the ten fault kinds (Table 11-1). -/
abbrev FaultSet := BitVec 10

/-- An instant, in bit times (00, 4.3); the origin of a mark lies 12 bit times before its
recognition, so an instant may be negative. -/
abbrev Instant := Int

end Sys2Proof
end

