-- ==== Sys2Proof/Syntax.lean ====
section
/-! DEFINITION. The commands of the KT318: one constructor per row of spec/opcode_table.json, with the values that
the outside world supplies with the step. -/

namespace Sys2Proof

/-- The strap pins, sampled at the release of reset (00 section 3; R43, R79, R121, R153). -/
structure Straps where
  /-- ST3 to ST0: the station number. -/
  st : Station
  /-- AX2 to AX0: the axis of this station's sensor. -/
  ax : Axis
  /-- PL2 to PL0: the line plan. -/
  pl : PlanCode
  /-- DW1 to DW0: the tracking window length. -/
  dw : BitVec 2
  /-- RES1 to RES0: the pulse resolution. -/
  res : BitVec 2
  deriving DecidableEq, Repr

/-- What the outside world presents at a recognised mark: the measurements of Table 7-2, the
readbacks that R165, R166 and R168 call "supplied from outside", and what the line's readback tells
of the station's own part in the dominant stretch (R46). -/
structure MarkInputs where
  /-- sine amplitude low -/
  sinLow : Bool
  /-- cosine amplitude low -/
  cosLow : Bool
  /-- sum of squares out of band -/
  sumOut : Bool
  /-- excitation feedback absent -/
  excAbsent : Bool
  /-- tracking error below lock -/
  belowLock : Bool
  /-- tracking error exceeded -/
  exceeded : Bool
  /-- tracked angle -/
  tracked : Angle
  /-- whether the station drove the line in this stretch otherwise than by the mark drive that
  the state shows (R46; a half-bit of a frame, or a drive released since) -/
  drove : Bool
  /-- the angle read back from the latch (R165) -/
  latchReadback : Angle
  /-- the live conditions as read back (R166) -/
  liveReadback : CondSet
  /-- the test counter as read back (R168) -/
  countReadback : BitVec 14
  deriving DecidableEq, Repr, Inhabited

/-- The local commands of Table 8-8. -/
inductive LocalCommand where
  | readStatus | readEvents | pin | unpin | readPage | readPeers | clearFaults
  | withdraw | rejoin | restart | startTest | clearResult | postNotice
  deriving DecidableEq, Repr

/-- The commands: one constructor per row of spec/opcode_table.json, in the table's order. -/
inductive Instr where
  | reset (straps : Straps) (csnLow : Bool)
  | markRecognised (m : MarkInputs)
  | markDeadline
  | listenTimeout
  | markDriveRelease
  | slotBegin (k : Station)
  | ownFrameComplete
  | collision
  | collisionJudgement
  | frameReceived (frame : BitVec 102)
  | slotEnd (k : Station)
  | close
  | voteCompletion
  | epsPulseEnd
  | emissionEdge
  | roundBegin (j : RoundNumber)
  | noticeCollision
  | noticeFrameComplete
  | roundEnd (j : RoundNumber)
  | noticeReceived (frame : BitVec 49)
  | csnFall
  | csnRise
  | badCommand (byte : Byte)
  | readStatus
  | readEvents (count : Byte)
  | eventRecordDelivered
  | pin
  | unpin
  | readPage
  | readPeers
  | clearFaults
  | withdraw
  | rejoin
  | restart
  | startTest (code : Byte)
  | clearResult
  | postNotice (value : Byte)
  | syncFound
  | codingBroken
  | commandByte (byte : Byte)
  deriving DecidableEq, Repr

end Sys2Proof
end

