-- ==== Sys2Proof/Decode.lean ====
section
/-! DEFINITION. What a word spells. The opcode table gives no row any bits, so no word spells a command of the queue
(`decodeTableWord`). The one byte the part itself decodes is the command byte of the local port
(R149, R174, Table 11-5). -/

namespace Sys2Proof

/-- The command a word of `nbits` bits spells by the table's bits: the table gives no row any, so
no word spells one (log 23). -/
def decodeTableWord (_nbits _w : Nat) : Option Instr := none

/-- The command a command byte names (Table 11-5); `none` for a byte that names none. -/
def LocalCommand.ofByte (b : Byte) : Option LocalCommand :=
  match b.toNat with
  | 0x01 => some .readStatus
  | 0x02 => some .readEvents
  | 0x10 => some .pin
  | 0x11 => some .unpin
  | 0x12 => some .readPage
  | 0x20 => some .readPeers
  | 0x30 => some .clearFaults
  | 0x40 => some .withdraw
  | 0x41 => some .rejoin
  | 0x4F => some .restart
  | 0x50 => some .startTest
  | 0x51 => some .clearResult
  | 0x60 => some .postNotice
  | _ => none

/-- The command byte of a command (Table 11-5). -/
def LocalCommand.toByte : LocalCommand → Byte
  | .readStatus => 0x01
  | .readEvents => 0x02
  | .pin => 0x10
  | .unpin => 0x11
  | .readPage => 0x12
  | .readPeers => 0x20
  | .clearFaults => 0x30
  | .withdraw => 0x40
  | .rejoin => 0x41
  | .restart => 0x4F
  | .startTest => 0x50
  | .clearResult => 0x51
  | .postNotice => 0x60

/-- Whether a command carries an argument byte (Table 8-8). -/
def LocalCommand.hasArgument : LocalCommand → Bool
  | .readEvents | .startTest | .postNotice => true
  | .readStatus | .pin | .unpin | .readPage | .readPeers | .clearFaults | .withdraw | .rejoin
  | .restart | .clearResult => false

/-- The row of the opcode table for a local command, with its argument byte where it carries one (Table 11-5). -/
def LocalCommand.toInstr (c : LocalCommand) (argument : Byte) : Instr :=
  match c with
  | .readStatus => .readStatus
  | .readEvents => .readEvents argument
  | .pin => .pin
  | .unpin => .unpin
  | .readPage => .readPage
  | .readPeers => .readPeers
  | .clearFaults => .clearFaults
  | .withdraw => .withdraw
  | .rejoin => .rejoin
  | .restart => .restart
  | .startTest => .startTest argument
  | .clearResult => .clearResult
  | .postNotice => .postNotice argument

/-- The row that a command byte brings: that of the command it names, COMMAND_BYTE where an argument follows, and
BAD_COMMAND where it names none (R148, R149, R174). -/
def commandByteRow (b : Byte) : Instr :=
  match LocalCommand.ofByte b with
  | some c => if c.hasArgument then .commandByte b else c.toInstr b
  | none => .badCommand b

end Sys2Proof
end

