-- ==== Sys2Proof/Config.lean ====
section
/-! DEFINITION. What the Technical Data leaves open. Two free values without a body: nothing in Lean can
evaluate them, so a statement that holds, holds whichever way the part and the outside choose (log 5, 6, 7, 34, 37). -/

namespace Sys2Proof

/-- The n-th choice the part makes where the Technical Data leaves it open: the order where R145 lets records of
different blocks "where two fall together" enter in either order, the number of log 6, the order of log 7, and the
outcome on which R71 and R72 disagree (log 37). `State.freeCount` numbers the choices, so each one is independent of
the others. -/
opaque Config.freeChoice : Nat → Bool

/-- What the outside world presents at an instant at which the station recognises a mark by its own drive
(R45, R47): the measurements and readbacks come from outside (R118, R165), so they are free (log 34). -/
opaque Config.markInputs : Instant → MarkInputs

end Sys2Proof
end

