-- ==== Sys2Proof/Machine/State.lean ====
section
/-! DEFINITION. The state of the KT318: every item of state the Technical Data gives a block (00 Table 2-1), grouped by
the block that owns it, and the machine right after reset. Plain data throughout. -/

namespace Sys2Proof.Machine

/-! ## The station line (Chapters 3, 4 and 6) -/

/-- The self states (R78). -/
inductive SelfState where
  | listen | joining | active | leaving | withdrawn | lockout
  deriving DecidableEq, Repr

/-- The state field of a sample frame (Table 11-1). -/
inductive FrameState where
  | joining | active
  deriving DecidableEq, Repr

/-- The three sample flags (R69). -/
structure SampleFlags where
  test : Bool
  settling : Bool
  sensorFault : Bool
  deriving DecidableEq, Repr

/-- Why a slot record is invalid (Table 4-4). -/
inductive InvalidReason where
  | badCheck | plan | slot | own | duplicateId
  deriving DecidableEq, Repr

/-- What a valid slot record holds (R69). -/
structure FrameRecord where
  station : Station
  axis : Axis
  state : FrameState
  flags : SampleFlags
  epoch : Epoch
  angle : Angle
  velocity : Velocity
  heard : StationSet
  deriving DecidableEq, Repr

/-- A slot record of the Epoch Buffer: in exactly one of three forms (R61). -/
inductive SlotRecord where
  | empty
  | invalid (reason : InvalidReason)
  | valid (frame : FrameRecord)
  deriving DecidableEq, Repr

/-- What became of the own sample frame in this epoch (R60). -/
inductive TxOutcome where
  | none | sending | sent | stopped | truncated
  deriving DecidableEq, Repr

/-- The receiver's position within the slot (R60), used likewise within a round (R111, log 12). -/
inductive Receiver where
  | searching | receiving | settled | off
  deriving DecidableEq, Repr

/-- The own sample frame as fixed at the begin of the own slot, and when its send began (R63). -/
structure SampleSend where
  bits : BitVec 102
  since : Instant
  deriving DecidableEq, Repr

/-- The station's own drive of a mark (R47, R50): none; driving a stretch not yet recognised, as a
cold start or not, since an instant; or recognised and driving on until the release. -/
inductive MarkDrive where
  | idle
  | driving (coldStart : Bool) (since : Instant)
  | recognised
  deriving DecidableEq, Repr

/-- The notice kinds, in the order of their codes (R103). -/
inductive NoticeKind where
  | leave | fault | test | user
  deriving DecidableEq, Repr

/-- An entry of the Notice Queue (Table 6-2). -/
structure NoticeEntry where
  kind : NoticeKind
  argument : Byte
  rounds : Nat
  inFlight : Bool
  replaced : Bool
  deriving DecidableEq, Repr

/-- What became of the own notice frame in the round in progress (R106 to R108; log 29). -/
inductive NoticeSend where
  | idle
  | sending (bits : BitVec 49) (since : Instant)
  | completed
  | lost
  deriving DecidableEq, Repr

/-- The four invalid counts of the last close (R75). -/
structure InvalidCounts where
  badCheck : Nat
  plan : Nat
  slot : Nat
  own : Nat
  deriving DecidableEq, Repr

/-- The Line Controller (R60, R104). `sentLate` says of a SENT outcome that the frame was completed in LEAVING, after the
change of state that R72 names (log 37). -/
structure LineController where
  buffer : List SlotRecord
  outcome : TxOutcome
  sentLate : Bool
  sending : Option SampleSend
  awaiting : Bool
  receiver : Receiver
  heard : StationSet
  counts : InvalidCounts
  markDrive : MarkDrive
  notices : List NoticeEntry
  noticeSend : NoticeSend
  deriving DecidableEq, Repr

/-- The schedule position (Table 3-2). -/
inductive SchedulePos where
  | none
  | mark
  | slot (k : Station)
  | gap
  | round (j : RoundNumber)
  | idle
  deriving DecidableEq, Repr

/-- The Epoch Timer (R44). The time since the last mark is computed from the clock and the origin
(`State.timeSinceMark`). -/
structure EpochTimer where
  plan : PlanCode
  epoch : Epoch
  markSeen : Bool
  origin : Option Instant
  position : SchedulePos
  roundOpen : Bool
  deadline : Option Instant
  listenTimer : Nat
  epochLength : BitVec 16
  selfMarked : Bool
  deriving DecidableEq, Repr

/-! ## Membership (Chapter 5) -/

/-- The states of a peer entry (R84). -/
inductive PeerState where
  | absent | new | present | silent
  deriving DecidableEq, Repr

/-- A last test report: the code, the phase and the outcome bits of a TEST notice (Table 11-4). -/
structure TestReport where
  code : BitVec 3
  ended : Bool
  outcome : BitVec 2
  deriving DecidableEq, Repr

/-- A Peer Table entry (Table 5-5). -/
structure PeerEntry where
  state : PeerState
  axis : Axis
  heardRun : Nat
  missRun : Nat
  frameState : FrameState
  flags : SampleFlags
  heard : StationSet
  lastEpoch : Epoch
  reported : ReportedSet
  testReport : Option TestReport
  bound : Bool
  refused : Bool
  deriving DecidableEq, Repr

/-- A cleared entry (R89). -/
def PeerEntry.cleared : PeerEntry where
  state := .absent
  axis := 0
  heardRun := 0
  missRun := 0
  frameState := .joining
  flags := ⟨false, false, false⟩
  heard := 0
  lastEpoch := 0
  reported := 0
  testReport := none
  bound := false
  refused := false

/-- The Membership Unit (Table 5-1). -/
structure MembershipUnit where
  selfState : SelfState
  ownStation : Station
  ownAxis : Axis
  listenRun : Nat
  mismatchRun : Nat
  joinRun : Nat
  joinEpochs : Nat
  unheardRun : Nat
  ownBound : Bool
  ownRefused : Bool
  peers : List PeerEntry
  deriving DecidableEq, Repr

/-! ## The Agreement Engine (Chapters 1 and 2) -/

/-- The standings of a source (Table 1-3). -/
inductive Standing where
  | voting | candidate | diverged
  deriving DecidableEq, Repr

/-- A placed sample (Table 1-2). -/
structure SourceSample where
  angle : Angle
  velocity : Velocity
  usable : Bool
  deriving DecidableEq, Repr

/-- A source record (Table 1-2). -/
structure Source where
  station : Station
  standing : Standing
  disagreeRun : Nat
  agreeRun : Nat
  sample : Option SourceSample
  deriving DecidableEq, Repr

/-- The row states (Table 1-4). -/
inductive RowState where
  | unbound | lost | split | single | agreed
  deriving DecidableEq, Repr

/-- An agreed value (Table 1-5). -/
structure AgreedValue where
  angle : Angle
  velocity : Velocity
  epoch : Epoch
  usedSet : StationSet
  deriving DecidableEq, Repr

/-- A row of the Axis Table (Table 1-1). -/
structure Row where
  sources : List Source
  state : RowState
  value : Option AgreedValue
  holdAge : Nat
  stale : Bool
  deriving DecidableEq, Repr

/-- A cleared row (Table 1-8). -/
def Row.cleared : Row where
  sources := []
  state := .unbound
  value := none
  holdAge := 0
  stale := false

/-- A vote in flight (R8, R19): the vote's rows, its epoch, when its list was delivered, and whether
the VOTE self-test runs in it (R167). The plan limits it takes are those of the plan in force, which
only a reset changes (R43). -/
structure VoteInFlight where
  rows : List Row
  epoch : Epoch
  deliveredAt : Instant
  testRuns : Bool
  deriving DecidableEq, Repr

/-- The Agreement Engine (R1). -/
structure AgreementEngine where
  rows : List Row
  vote : Option VoteInFlight
  deriving DecidableEq, Repr

/-! ## The Sensor Interface (Chapter 7) -/

/-- The converter states (R117). -/
inductive ConverterState where
  | acquire | track | hold
  deriving DecidableEq, Repr

/-- The own sample (Table 7-1). -/
structure OwnSample where
  angle : Angle
  velocity : Velocity
  settling : Bool
  sensorFault : Bool
  deriving DecidableEq, Repr

/-- The Converter and the Monitor (Table 7-1). `underTest` is the TEST flag of the own sample (R63,
log 13); in `window`, `true` is EXCEEDED; `excitation` is the mark origin the excitation phase is
aligned to, `none` while it runs free (R124). -/
structure SensorInterface where
  conv : ConverterState
  acqCount : Nat
  prevLatch : Option Angle
  sample : OwnSample
  underTest : Bool
  evaluated : CondSet
  forced : CondSet
  window : List Bool
  dw : BitVec 2
  excitation : Option Instant
  deriving DecidableEq, Repr

/-- The fault kinds, in the order of their bits (Table 7-5, Table 11-1). -/
inductive FaultKind where
  | lossSin | lossCos | amplitude | excitation | tracking | selfTest
  | txUnheard | duplicateId | planMismatch | strapRange
  deriving DecidableEq, Repr

/-- The Fault Register: the held set, and FLT (true while asserted) (R128, R131). -/
structure FaultRegister where
  held : FaultSet
  flt : Bool
  deriving DecidableEq, Repr

/-! ## Snapshot Store and Local Port (Chapter 8) -/

/-- A page number (R135). -/
abbrev PageNumber := Fin 3

/-- A page row (Table 2-7). -/
structure PageRow where
  state : RowState
  stale : Bool
  present : Bool
  holdAge : Nat
  angle : Angle
  velocity : Velocity
  usedSet : StationSet
  epoch : Epoch
  deriving DecidableEq, Repr

/-- A row as a cleared page shows it (R135). -/
def PageRow.cleared : PageRow := ⟨.unbound, false, false, 0, 0, 0, 0, 0⟩

/-- A page (Table 8-2). -/
structure Page where
  valid : Bool
  epoch : Epoch
  selfMarked : Bool
  selfState : SelfState
  presentSet : StationSet
  live : CondSet
  held : FaultSet
  rows : List PageRow
  deriving DecidableEq, Repr

/-- A cleared page (R135). -/
def Page.cleared : Page := ⟨false, 0, false, .listen, 0, 0, 0, List.replicate 8 PageRow.cleared⟩

/-- The kinds of pin (R135). -/
inductive PinKind where
  | held | transaction
  deriving DecidableEq, Repr

/-- The pin (R135). -/
structure Pin where
  page : PageNumber
  kind : PinKind
  deriving DecidableEq, Repr

/-- The Snapshot Store (R135). `fill` and `front` are the pages in those roles and `spare` the pages
in the SPARE role, in spare order, earliest first; `eps` is the instant since which EPS is high. -/
structure SnapshotStore where
  pages : List Page
  fill : PageNumber
  front : Option PageNumber
  spare : List PageNumber
  pin : Option Pin
  eps : Option Instant
  deriving DecidableEq, Repr

/-- The 19 event kinds, in the order of Table 8-5. -/
inductive EventKind where
  | peerJoined | peerLost | peerLeft | sourceRefused | sourceDiverged | sourceReadmitted
  | rowRebuilt | rowState | noticeFault | noticeTest | noticeUser | noticeExpired
  | stationState | resync | joinFailed | epochCut | faultHeld | testDone | emulator
  deriving DecidableEq, Repr

/-- An event record (Table 8-4). -/
structure EventRecord where
  kind : EventKind
  epoch : Epoch
  station : Option Station
  axis : Option Axis
  argument : Option Byte
  deriving DecidableEq, Repr

/-- The transaction states (Table 8-6). -/
inductive Transaction where
  | closed
  | command
  | arguments (c : LocalCommand)
  | response
  | ignore
  deriving DecidableEq, Repr

/-- The Local Port (R144, R148). `response` is the status byte and data of the open transaction
(log 20); `toDeliver` counts the records of a READ_EVENTS not yet delivered (R147). -/
structure LocalPort where
  txn : Transaction
  csnLow : Bool
  response : List Byte
  toDeliver : Nat
  events : List EventRecord
  overflow : Bool
  deriving DecidableEq, Repr

/-! ## Pulse Emulator and Self-Test Unit (Chapters 9 and 10) -/

/-- The emulator states (R153). -/
inductive EmulatorState where
  | idle | follow | lagging | frozen
  deriving DecidableEq, Repr

/-- An emission in flight (R153). -/
structure Emission where
  up : Bool
  planned : Nat
  emitted : Nat
  start : Instant
  deriving DecidableEq, Repr

/-- The Pulse Emulator (Table 9-2). `testHold` is the test counter while the test hold is set. -/
structure PulseEmulator where
  res : BitVec 2
  state : EmulatorState
  counter : Nat
  emission : Option Emission
  testHold : Option Nat
  enca : Bool
  encb : Bool
  encz : Bool
  deriving DecidableEq, Repr

/-- The four self-tests (Table 10-2). -/
inductive TestCode where
  | inject | monitor | vote | pulse
  deriving DecidableEq, Repr

/-- The test in progress (Table 10-1). -/
structure TestRun where
  code : TestCode
  step : Nat
  remaining : Nat
  deriving DecidableEq, Repr

/-- Why a test was aborted (R163). -/
inductive AbortReason where
  | restart | state | lockout
  deriving DecidableEq, Repr

/-- The outcome in the result record (R163). -/
inductive TestOutcome where
  | running
  | pass
  | fail (detail : Nat)
  | aborted (reason : AbortReason)
  deriving DecidableEq, Repr

/-- The result record (R163). -/
structure TestResult where
  code : TestCode
  outcome : TestOutcome
  endingEpoch : Option Epoch
  deriving DecidableEq, Repr

/-- The Self-Test Unit (R163). -/
structure SelfTestUnit where
  running : Option TestRun
  result : Option TestResult
  deriving DecidableEq, Repr

/-! ## The whole state -/

/-- The machine's state, block by block, and the model's own three fields: the clock (log 2), the
number of the next free choice (log 5) and the queue of waiting commands (log 1). -/
structure State where
  clock : Instant
  line : LineController
  timer : EpochTimer
  member : MembershipUnit
  engine : AgreementEngine
  sensor : SensorInterface
  faults : FaultRegister
  store : SnapshotStore
  port : LocalPort
  emulator : PulseEmulator
  tests : SelfTestUnit
  freeCount : Nat
  pending : List Instr
  deriving DecidableEq, Repr

/-- Why the machine stops with a fault. There is no reason: the Technical Data describes every fault
of the part as state (the held set, FLT, LOCKOUT), after which the part goes on. Safe: no meaning
raises a fault. -/
inductive Fault : Type
  deriving DecidableEq, Repr

/-- Why a command has no meaning. -/
inductive Refusal where
  /-- Raised by `exec` for a command whose meaning is not written; no arm of `exec` raises it. Safe:
  a refusal proves nothing about the part. -/
  | notModelled (mnemonic : String)
  deriving DecidableEq, Repr

/-- The machine right after reset: the values of R44, R77, R78, R89, R17, R134, R135, R152, R153, R163
and R115, with every strap 0 and CSN high (log 8). The station number 0 is below the N of every plan, so
the station is in LISTEN, and STATION_STATE, carrying LISTEN, is the first event (R79). -/
def State.reset : State where
  clock := 0
  line := {
    buffer := List.replicate 16 .empty
    outcome := .none
    sentLate := false
    sending := none
    awaiting := false
    receiver := .off
    heard := 0
    counts := ⟨0, 0, 0, 0⟩
    markDrive := .idle
    notices := []
    noticeSend := .idle }
  timer := {
    plan := 0
    epoch := 0
    markSeen := false
    origin := none
    position := .none
    roundOpen := false
    deadline := none
    listenTimer := 0
    epochLength := 0
    selfMarked := false }
  member := {
    selfState := .listen
    ownStation := 0
    ownAxis := 0
    listenRun := 0
    mismatchRun := 0
    joinRun := 0
    joinEpochs := 0
    unheardRun := 0
    ownBound := false
    ownRefused := false
    peers := List.replicate 16 PeerEntry.cleared }
  engine := { rows := List.replicate 8 Row.cleared, vote := none }
  sensor := {
    conv := .acquire
    acqCount := 0
    prevLatch := none
    sample := ⟨0, 0, true, false⟩
    underTest := false
    evaluated := 0
    forced := 0
    window := []
    dw := 0
    excitation := none }
  faults := { held := 0, flt := false }
  store := {
    pages := List.replicate 3 Page.cleared
    fill := 0
    front := none
    spare := [1, 2]
    pin := none
    eps := none }
  port := {
    txn := .closed
    csnLow := false
    response := []
    toDeliver := 0
    events := [⟨.stationState, 0, none, none, some 0⟩]
    overflow := false }
  emulator := {
    res := 0
    state := .idle
    counter := 0
    emission := none
    testHold := none
    enca := false
    encb := false
    encz := false }
  tests := { running := none, result := none }
  freeCount := 0
  pending := []

end Sys2Proof.Machine
end

