-- ==== Sys2Proof/Machine/Angle.lean ====
section
/-! DEFINITION. The arithmetic of angles, velocities and counts (00 section 4.1; R6, R29, R155), and station sets. -/

namespace Sys2Proof.Machine

/-- The circular difference of angle a from angle b, -32768 to 32767 (R6). -/
def circDiff (a b : Angle) : Int := (a - b).toInt

/-- The magnitude of the circular difference (R6). -/
def circMag (a b : Angle) : Nat := (circDiff a b).natAbs

/-- Two angles agree under the tolerance (R6). -/
def anglesAgree (tol : Nat) (a b : Angle) : Bool := decide (circMag a b ≤ tol)

/-- The angle that lies `d` from `a`, reduced modulo 65536 (R6). -/
def angleAdd (a : Angle) (d : Int) : Angle := a + BitVec.ofInt 16 d

/-- The midpoint of a reference and another angle: the reference plus floor(d/2) (R29). -/
def midAngle (ref other : Angle) : Angle := angleAdd ref (circDiff other ref / 2)

/-- The floor of the mean of two velocities; an ordinary signed mean, not reduced (R29). -/
def midVelocity (v1 v2 : Velocity) : Velocity :=
  BitVec.ofInt 16 ((v1.toInt + v2.toInt) / 2)

/-- The velocity that a circular difference of angles gives (00, 4.1; R126). -/
def velocityFrom (a b : Angle) : Velocity := a - b

/-- The circular count difference of the target from the counter (R155). -/
def countDiff (target counter perTurn : Nat) : Int :=
  let d : Int := (target : Int) - counter
  if d ≥ (perTurn / 2 : Nat) then d - perTurn
  else if d < -((perTurn / 2 : Nat) : Int) then d + perTurn
  else d

/-- One count up or down, modulo C (R157). -/
def countStep (up : Bool) (counter perTurn : Nat) : Nat :=
  if up then (counter + 1) % perTurn else (counter + perTurn - 1) % perTurn

/-- The station set that holds one station (00, 4.2). -/
def stationBit (k : Station) : StationSet := 1#16 <<< k.toNat

/-- The station set of a list of stations. -/
def stationSet (ks : List Station) : StationSet := ks.foldl (fun acc k => acc ||| stationBit k) 0

/-- Whether a station set holds a station. -/
def inSet (set : StationSet) (k : Station) : Bool := set.getLsbD k.toNat

/-- The station numbers 0 to 15, ascending. -/
def allStations : List Station := (List.range 16).map (BitVec.ofNat 4)

end Sys2Proof.Machine
end

