-- ==== Sys2Proof/Machine/Flags.lean ====
section
/-! DEFINITION. The codes of enumerated values (Table 11-1) and the fault-set bits (Table 7-5, Table 11-1). -/

namespace Sys2Proof.Machine

/-- Self state codes (Table 11-1). -/
def SelfState.code : SelfState → Nat
  | .listen => 0
  | .joining => 1
  | .active => 2
  | .leaving => 3
  | .withdrawn => 4
  | .lockout => 5

/-- Row state codes (Table 11-1). -/
def RowState.code : RowState → Nat
  | .unbound => 0
  | .lost => 1
  | .split => 2
  | .single => 3
  | .agreed => 4

/-- Converter state codes (Table 11-1). -/
def ConverterState.code : ConverterState → Nat
  | .acquire => 0
  | .track => 1
  | .hold => 2

/-- Emulator state codes (Table 11-1). -/
def EmulatorState.code : EmulatorState → Nat
  | .idle => 0
  | .follow => 1
  | .lagging => 2
  | .frozen => 3

/-- Peer state codes (Table 11-1). -/
def PeerState.code : PeerState → Nat
  | .absent => 0
  | .new => 1
  | .present => 2
  | .silent => 3

/-- Frame state codes (Table 11-1). -/
def FrameState.code : FrameState → Nat
  | .joining => 0
  | .active => 1

/-- Notice kind codes (R103). -/
def NoticeKind.code : NoticeKind → Nat
  | .leave => 0
  | .fault => 1
  | .test => 2
  | .user => 3

/-- The notice kind of a code (R103). -/
def NoticeKind.ofCode (c : BitVec 2) : NoticeKind :=
  match c.toNat with
  | 0 => .leave
  | 1 => .fault
  | 2 => .test
  | _ => .user

/-- Self-test codes (Table 10-2). -/
def TestCode.code : TestCode → Nat
  | .inject => 1
  | .monitor => 2
  | .vote => 3
  | .pulse => 4

/-- The test of a code byte, if it names one (R164). -/
def TestCode.ofByte (b : Byte) : Option TestCode :=
  match b.toNat with
  | 1 => some .inject
  | 2 => some .monitor
  | 3 => some .vote
  | 4 => some .pulse
  | _ => none

/-- Test outcome codes (Table 11-1); RUNNING reads 0 (Table 11-6). -/
def TestOutcome.code : TestOutcome → Nat
  | .running => 0
  | .pass => 1
  | .fail _ => 2
  | .aborted _ => 3

/-- Abort reason codes (Table 11-6). -/
def AbortReason.code : AbortReason → Nat
  | .restart => 1
  | .state => 2
  | .lockout => 3

/-- Event kind codes: 1 to 19 in the order of Table 8-5 (Table 11-1). -/
def EventKind.code : EventKind → Nat
  | .peerJoined => 1
  | .peerLost => 2
  | .peerLeft => 3
  | .sourceRefused => 4
  | .sourceDiverged => 5
  | .sourceReadmitted => 6
  | .rowRebuilt => 7
  | .rowState => 8
  | .noticeFault => 9
  | .noticeTest => 10
  | .noticeUser => 11
  | .noticeExpired => 12
  | .stationState => 13
  | .resync => 14
  | .joinFailed => 15
  | .epochCut => 16
  | .faultHeld => 17
  | .testDone => 18
  | .emulator => 19

/-- The status codes (Table 8-7, R174). -/
inductive Status where
  | ok | badCommand | badArgument | busy | wrongState | noPage
  deriving DecidableEq, Repr

/-- The status bytes (R174). -/
def Status.byte : Status → Byte
  | .ok => 0
  | .badCommand => 1
  | .badArgument => 2
  | .busy => 3
  | .wrongState => 4
  | .noPage => 5

/-- What the part shifts out where Chapter 8 gives filler (R174). -/
def fillerByte : Byte := 0xFF

/-! ## Fault sets -/

/-- The bit of a fault kind in the fault set (Table 11-1). -/
def FaultKind.bit : FaultKind → Nat
  | .lossSin => 0
  | .lossCos => 1
  | .amplitude => 2
  | .excitation => 3
  | .tracking => 4
  | .selfTest => 5
  | .txUnheard => 6
  | .duplicateId => 7
  | .planMismatch => 8
  | .strapRange => 9

/-- The set that holds one kind. -/
def FaultKind.mask (k : FaultKind) : FaultSet := 1#10 <<< k.bit

/-- Whether a fault set holds a kind. -/
def holds (set : FaultSet) (k : FaultKind) : Bool := set.getLsbD k.bit

/-- The five sensor kinds in the order R129 gives their events. -/
def sensorKinds : List FaultKind := [.lossSin, .lossCos, .amplitude, .excitation, .tracking]

/-- The set of one sensor condition. -/
def condMask (k : FaultKind) : CondSet := k.mask.setWidth 5

/-- Whether a condition set holds a sensor condition. -/
def condHolds (set : CondSet) (k : FaultKind) : Bool := set.getLsbD k.bit

/-- A condition set from its five members. -/
def condSet (sin cos amp exc trk : Bool) : CondSet :=
  BitVec.ofNat 5 (sin.toNat + 2 * cos.toNat + 4 * amp.toNat + 8 * exc.toNat + 16 * trk.toNat)

/-- The reported part of a held set: the sensor kinds and SELFTEST (R128). -/
def reportedPart (held : FaultSet) : ReportedSet := held.setWidth 6

/-- The live conditions: the evaluated and the forced together (R117). -/
def SensorInterface.live (m : SensorInterface) : CondSet := m.evaluated ||| m.forced

/-- The kinds that have a live condition now: the evaluated sensor kinds (Table 7-5, last column). -/
def SensorInterface.liveKinds (m : SensorInterface) : FaultSet := m.evaluated.setWidth 10

end Sys2Proof.Machine
end

