-- ==== Sys2Proof/Machine/Plan.lean ====
section
/-! DEFINITION. What the straps fix: the plans of Table 3-1, the window length of Table 7-3, the counts per turn of
Table 9-1, and the instants that follow from them (R48, R50, R51, R157). -/

namespace Sys2Proof.Machine

/-- The values a plan fixes (Table 3-1). -/
structure Plan where
  n : Nat
  period : Nat
  tol : Nat
  div : Nat
  readmit : Nat
  stale : Nat
  deriving DecidableEq, Repr

/-- Table 3-1. -/
def planTable (p : PlanCode) : Plan :=
  match p.toNat with
  | 0 => ⟨4, 2500, 64, 4, 16, 16⟩
  | 1 => ⟨4, 5000, 64, 4, 16, 16⟩
  | 2 => ⟨8, 5000, 128, 6, 24, 16⟩
  | 3 => ⟨8, 10000, 128, 6, 24, 8⟩
  | 4 => ⟨12, 10000, 128, 8, 32, 8⟩
  | 5 => ⟨16, 10000, 256, 8, 32, 8⟩
  | 6 => ⟨16, 20000, 256, 8, 32, 4⟩
  | _ => ⟨16, 20000, 512, 12, 48, 4⟩

/-- The plan in force (R43). -/
def State.plan (s : State) : Plan := planTable s.timer.plan

/-- W, the tracking window length (Table 7-3). -/
def windowLength (dw : BitVec 2) : Nat := 8 * 2 ^ dw.toNat

/-- C, the counts per turn (Table 9-1). -/
def countsPerTurn (res : BitVec 2) : Nat :=
  match res.toNat with
  | 0 => 1024
  | 1 => 4096
  | 2 => 8192
  | _ => 16384

/-! ## Instants -/

/-- Recognition comes 12 bit times after the origin (R45). -/
def recognitionTime : Nat := 12

/-- A driver releases 16 bit times after the origin (R47). -/
def releaseTime : Nat := 16

/-- When slot k begins, after the origin (Table 3-3). -/
def slotTime (k : Nat) : Nat := 16 + 144 * k

/-- When the slot phase ends, after the origin (Table 3-3). -/
def closeTime (n : Nat) : Nat := slotTime n

/-- When round j begins, after the origin (Table 3-3). -/
def roundTime (n j : Nat) : Nat := closeTime n + 32 + 64 * j

/-- The time since the last mark: bit times from the origin, stopping at 65535 (R44); 0 while no
mark has an origin (log 22). -/
def State.timeSinceMark (s : State) : Nat :=
  match s.timer.origin with
  | none => 0
  | some o => min 65535 (s.clock - o).toNat

/-- Whether a time of Table 3-3 has come, counted from the origin of the last mark. A schedule event acts only then: one of
an epoch that a mark has ended, still waiting behind the mark, is before its time in the new epoch (R51, R54, R55). -/
def State.reached (s : State) (time : Nat) : Bool :=
  match s.timer.origin with
  | none => false
  | some o => decide (o + time ≤ s.clock)

/-- The instant of the mark deadline for an origin (R48). -/
def State.deadlineFrom (s : State) (origin : Instant) : Instant :=
  origin + s.plan.period + 8 * s.member.ownStation.toNat

/-- The listen timeout (R50). -/
def State.listenTimeout (s : State) : Nat := 4 * s.plan.period + 8 * s.member.ownStation.toNat

/-- Where the listen timer stops (R44). -/
def State.listenLimit (s : State) : Nat := 4 * s.plan.period + 120

/-- The delay of the k-th of m edges after its publication (R157). -/
def edgeTime (period m k : Nat) : Nat := 3 * period * k / (4 * m)

/-- Whether the self state arms the mark deadline, and may send notices (R48, R106). -/
def SelfState.sends : SelfState → Bool
  | .joining | .active | .leaving => true
  | .listen | .withdrawn | .lockout => false

/-- Whether the station is a member (00 Table 5-1): JOINING or ACTIVE. -/
def SelfState.member : SelfState → Bool
  | .joining | .active => true
  | .listen | .leaving | .withdrawn | .lockout => false

/-- The schedule is drawn when mark seen is yes and the self state is other than LOCKOUT (R52). -/
def State.drawn (s : State) : Bool := s.timer.markSeen && s.member.selfState != .lockout

/-- The place of a schedule position in the epoch: events are raised in rising order (R51). -/
def SchedulePos.rank : SchedulePos → Nat
  | .none => 100
  | .mark => 0
  | .slot k => 1 + k.toNat
  | .gap => 20
  | .round j => 21 + j.toNat
  | .idle => 30

/-- A position within the slot phase, or waiting for it (R51). -/
def SchedulePos.beforeClose : SchedulePos → Bool
  | .mark | .slot _ => true
  | .none | .gap | .round _ | .idle => false

end Sys2Proof.Machine
end

