-- ==== Sys2Proof/Machine/Operands.lean ====
section
/-! DEFINITION. The frames of the station line, bit by bit (R172, Tables 11-2 to 11-4), the frame check (R173), the coding of
bits in halves, and the arguments of notices. A frame is one number whose most significant bit is sent first. -/

namespace Sys2Proof.Machine

/-! ## The frame check (R173) -/

/-- One bit taken into the check register. -/
def checkStep (reg : BitVec 16) (b : Bool) : BitVec 16 :=
  if reg.msb ^^ b then (reg <<< 1) ^^^ 0x1021#16 else reg <<< 1

/-- The lowest `n` bits of `v`, taken into the register in the order sent. -/
def checkFrom {w : Nat} (v : BitVec w) : Nat → BitVec 16 → BitVec 16
  | 0, reg => reg
  | n + 1, reg => checkFrom v n (checkStep reg (v.getLsbD n))

/-- The frame check over the bits between the sync and the check field. -/
def frameCheck {w : Nat} (v : BitVec w) : BitVec 16 := checkFrom v w 0xFFFF#16

/-! ## The coding of bits in halves (R172) -/

/-- The two halves of a bit, dominant being `true`: a 0 is dominant in its first half, a 1 in its second. -/
def codeBit (b : Bool) : List Bool := [!b, b]

/-- The bits of a frame in the order sent. -/
def sentBits {w : Nat} (v : BitVec w) : List Bool := (List.range w).map fun i => v.getLsbD (w - 1 - i)

/-- The half-bits of a frame on the line. -/
def codedHalves {w : Nat} (v : BitVec w) : List Bool := (sentBits v).flatMap codeBit

/-! ## Sample frames (Table 11-2) -/

/-- The sample sync pattern. -/
def sampleSync : BitVec 8 := 0xB4

/-- The flags field: TEST, SETTLING, SENSOR_FAULT, in that order. -/
def SampleFlags.lineBits (f : SampleFlags) : BitVec 3 :=
  BitVec.ofNat 3 (4 * f.test.toNat + 2 * f.settling.toNat + f.sensorFault.toNat)

/-- The fields of a sample frame from plan code to heard set: bits 8 to 85. -/
def samplePayload (plan : PlanCode) (f : FrameRecord) : BitVec 78 :=
  plan ++ f.station ++ f.axis ++ BitVec.ofNat 1 f.state.code ++ f.flags.lineBits ++ f.epoch ++ f.angle
    ++ f.velocity ++ f.heard

/-- A whole sample frame. -/
def sampleFrame (plan : PlanCode) (f : FrameRecord) : BitVec 102 :=
  sampleSync ++ samplePayload plan f ++ frameCheck (samplePayload plan f)

/-- Bits `first` to `first + len - 1` of a frame, bit 0 being the first sent (Tables 11-2, 11-3). -/
def frameField {w : Nat} (frame : BitVec w) (first len : Nat) : BitVec len :=
  frame.extractLsb' (w - first - len) len

/-- Whether a frame opens with the sample sync (R67, R172). -/
def sampleSyncOk (frame : BitVec 102) : Bool := frameField frame 0 8 == sampleSync

/-- The plan code of a received sample frame. -/
def samplePlan (frame : BitVec 102) : PlanCode := frameField frame 8 3

/-- Whether the frame check of a received sample frame is right. -/
def sampleCheckOk (frame : BitVec 102) : Bool :=
  frameCheck (frameField frame 8 78) == frameField frame 86 16

/-- The fields of a received sample frame that a valid record keeps (R69). -/
def sampleRecord (frame : BitVec 102) : FrameRecord where
  station := frameField frame 11 4
  axis := frameField frame 15 3
  state := if frameField frame 18 1 = 1#1 then .active else .joining
  flags := ⟨frameField frame 19 1 == 1#1, frameField frame 20 1 == 1#1, frameField frame 21 1 == 1#1⟩
  epoch := frameField frame 22 16
  angle := frameField frame 38 16
  velocity := frameField frame 54 16
  heard := frameField frame 70 16

/-! ## Notice frames (Table 11-3) -/

/-- The notice sync pattern. -/
def noticeSync : BitVec 8 := 0x9B

/-- What a notice frame carries. -/
structure NoticeFields where
  kind : NoticeKind
  station : Station
  plan : PlanCode
  argument : Byte
  epochLow : Byte
  deriving DecidableEq, Repr

/-- The fields of a notice frame from kind to epoch low byte: bits 8 to 32. -/
def noticePayload (f : NoticeFields) : BitVec 25 :=
  BitVec.ofNat 2 f.kind.code ++ f.station ++ f.plan ++ f.argument ++ f.epochLow

/-- A whole notice frame. -/
def noticeFrame (f : NoticeFields) : BitVec 49 :=
  noticeSync ++ noticePayload f ++ frameCheck (noticePayload f)

/-- Whether a frame opens with the notice sync (R111, R172). -/
def noticeSyncOk (frame : BitVec 49) : Bool := frameField frame 0 8 == noticeSync

/-- Whether the frame check of a received notice frame is right. -/
def noticeCheckOk (frame : BitVec 49) : Bool :=
  frameCheck (frameField frame 8 25) == frameField frame 33 16

/-- The fields of a received notice frame. -/
def noticeFields (frame : BitVec 49) : NoticeFields where
  kind := NoticeKind.ofCode (frameField frame 8 2)
  station := frameField frame 10 4
  plan := frameField frame 14 3
  argument := frameField frame 17 8
  epochLow := frameField frame 25 8

/-- The low byte of an epoch number (R106, R112). -/
def epochLow (e : Epoch) : Byte := e.setWidth 8

/-! ## Notice arguments (Table 11-4) -/

/-- The argument of a FAULT notice: the reported part. -/
def faultArgument (held : FaultSet) : Byte := (reportedPart held).setWidth 8

/-- The argument of a TEST notice with phase START. -/
def testStartArgument (c : TestCode) : Byte := BitVec.ofNat 8 c.code

/-- The argument of a TEST notice with phase END, and of TEST_DONE. -/
def testEndArgument (c : TestCode) (o : TestOutcome) : Byte := BitVec.ofNat 8 (c.code + 8 + 16 * o.code)

/-- The reported faults a FAULT argument carries (R114). -/
def reportedOf (arg : Byte) : ReportedSet := arg.setWidth 6

/-- The test report a TEST argument carries (R114). -/
def testReportOf (arg : Byte) : TestReport where
  code := arg.extractLsb' 0 3
  ended := arg.getLsbD 3
  outcome := arg.extractLsb' 4 2

end Sys2Proof.Machine
end

