-- ==== Sys2Proof/Machine/Ops.lean ====
section
/-! DEFINITION. The operations several blocks share: appending to the Event Queue (R145), posting to the Notice Queue
(R105), setting held faults (R128), answering on the local port (R149), and arming the mark deadline (R47, R48). -/

namespace Sys2Proof.Machine

/-! ## Event records (R146) -/

/-- ROW_STATE: axis, and the new row state and STALE flag. -/
def evRowState (e : Epoch) (axis : Nat) (state : RowState) (stale : Bool) : EventRecord :=
  ⟨.rowState, e, none, some (BitVec.ofNat 3 axis), some (BitVec.ofNat 8 (state.code + 8 * stale.toNat))⟩

/-- STATION_STATE: the new self state. -/
def evStationState (e : Epoch) (st : SelfState) : EventRecord :=
  ⟨.stationState, e, none, none, some (BitVec.ofNat 8 st.code)⟩

/-- FAULT_HELD: the fault kind. -/
def evFaultHeld (e : Epoch) (k : FaultKind) : EventRecord :=
  ⟨.faultHeld, e, none, none, some (BitVec.ofNat 8 k.bit)⟩

/-- TEST_DONE: the test code and its outcome, in the TEST argument layout with phase END. -/
def evTestDone (e : Epoch) (c : TestCode) (o : TestOutcome) : EventRecord :=
  ⟨.testDone, e, none, none, some (testEndArgument c o)⟩

/-- EMULATOR: the new emulator state. -/
def evEmulator (e : Epoch) (st : EmulatorState) : EventRecord :=
  ⟨.emulator, e, none, none, some (BitVec.ofNat 8 st.code)⟩

/-- NOTICE_EXPIRED: the notice kind. -/
def evNoticeExpired (e : Epoch) (k : NoticeKind) : EventRecord :=
  ⟨.noticeExpired, e, none, none, some (BitVec.ofNat 8 k.code)⟩

/-- A record that carries a station alone: PEER_LOST, PEER_LEFT. -/
def evStation (kind : EventKind) (e : Epoch) (k : Station) : EventRecord := ⟨kind, e, some k, none, none⟩

/-- A record that carries a station and an axis: PEER_JOINED, SOURCE_REFUSED, SOURCE_DIVERGED,
SOURCE_READMITTED. -/
def evStationAxis (kind : EventKind) (e : Epoch) (k : Station) (a : Axis) : EventRecord :=
  ⟨kind, e, some k, some a, none⟩

/-- A received notice: the sender and the argument as received. -/
def evNotice (kind : EventKind) (e : Epoch) (k : Station) (arg : Byte) : EventRecord :=
  ⟨kind, e, some k, none, some arg⟩

/-- A record that carries no optional field: RESYNC, JOIN_FAILED, EPOCH_CUT. -/
def evPlain (kind : EventKind) (e : Epoch) : EventRecord := ⟨kind, e, none, none, none⟩

/-! ## The Event Queue (R144, R145) -/

/-- The most records the Event Queue holds (R144). -/
def eventCapacity : Nat := 32

/-- An append: at the newest end, or dropped with OVERFLOW set when the queue is full (R145). -/
def LocalPort.append (p : LocalPort) (e : EventRecord) : LocalPort :=
  if p.events.length < eventCapacity then { p with events := p.events ++ [e] } else { p with overflow := true }

/-- Several appends, in order. -/
def LocalPort.appendAll (p : LocalPort) (es : List EventRecord) : LocalPort := es.foldl LocalPort.append p

/-- The records one event of a block appends, in the order its chapter gives (R145). -/
def State.emit (s : State) (es : List EventRecord) : State := { s with port := s.port.appendAll es }

/-- Two blocks' records entering together: each block's own order is kept, and every choice between
the two is free (R145). `fuel` bounds the number of choices; the lists' lengths together are enough. -/
def freeMerge {α : Type} (c : Nat) : Nat → List α → List α → List α
  | fuel + 1, a :: as, b :: bs =>
    if Config.freeChoice c then a :: freeMerge (c + 1) fuel as (b :: bs)
    else b :: freeMerge (c + 1) fuel (a :: as) bs
  | _, as, bs => as ++ bs

/-- Several blocks' records entering together. The second component is the number of the next free
choice. -/
def mergeBlocks (c : Nat) : List (List EventRecord) → List EventRecord × Nat
  | [] => ([], c)
  | block :: rest =>
    let (tail, c') := mergeBlocks c rest
    (freeMerge c' (block.length + tail.length) block tail, c' + block.length + tail.length)

/-- The records that different blocks append within one command where no rule orders them (R145, log 5). -/
def State.emitTogether (s : State) (blocks : List (List EventRecord)) : State :=
  let merged := mergeBlocks s.freeCount blocks
  { s with freeCount := merged.2, port := s.port.appendAll merged.1 }

/-! ## The Notice Queue (R104, R105) -/

/-- The entry a posting of `kind` leaves in place of a pending one (R105). -/
def NoticeEntry.repost (e : NoticeEntry) (arg : Byte) : NoticeEntry :=
  match e.kind with
  | .leave | .test => { e with argument := arg, rounds := 0, replaced := e.inFlight || e.replaced }
  | .fault => { e with argument := arg, replaced := e.inFlight || e.replaced }
  | .user => e

/-- Whether an entry of a kind is pending. -/
def noticePending (q : List NoticeEntry) (kind : NoticeKind) : Bool := q.any fun e => e.kind == kind

/-- A posting to the Notice Queue (R105). -/
def postNotice (q : List NoticeEntry) (kind : NoticeKind) (arg : Byte) : List NoticeEntry :=
  if noticePending q kind then q.map fun e => if e.kind = kind then e.repost arg else e
  else q ++ [⟨kind, arg, 0, false, false⟩]

/-- A posting by a block of the station (R105). -/
def State.post (s : State) (kind : NoticeKind) (arg : Byte) : State :=
  { s with line.notices := postNotice s.line.notices kind arg }

/-! ## The Fault Register (R128, R131, R132) -/

/-- A held set with a kind added, and FLT with it (R128, R131). -/
def FaultRegister.set (f : FaultRegister) (k : FaultKind) : FaultRegister :=
  ⟨f.held ||| k.mask, true⟩

/-- The FAULT_HELD of a setting: none where the kind is held already (R128). -/
def faultEvents (f : FaultRegister) (e : Epoch) (k : FaultKind) : List EventRecord :=
  if holds f.held k then [] else [evFaultHeld e k]

/-- Posts the FAULT notice of R132 when an event has changed the reported part from that of `before`,
in ACTIVE. -/
def State.postFaultChange (s : State) (before : FaultSet) : State :=
  if reportedPart before ≠ reportedPart s.faults.held ∧ s.member.selfState = .active
  then s.post .fault (faultArgument s.faults.held) else s

/-! ## Answers on the local port (R149) -/

/-- The answer to a command: the status byte and its data, in RESPONSE (R149). -/
def State.answer (s : State) (st : Status) (data : List Byte) : State :=
  { s with port.txn := .response, port.response := st.byte :: data }

/-- Whether a command can be taken now: its transaction is in COMMAND, or in ARGUMENTS of that
command (R148, R149; log 18). -/
def State.takes (s : State) (c : LocalCommand) : Bool :=
  s.port.txn == .command || (c.hasArgument && s.port.txn == .arguments c)

/-- An answer with data is OK; the bytes of a 16-bit number, most significant byte first (Chapter 11). -/
def bytes16 (x : BitVec 16) : List Byte := [x.extractLsb' 8 8, x.setWidth 8]

/-! ## The mark deadline (R47, R48) -/

/-- Whether the station drives a mark that is not yet recognised (R47). -/
def MarkDrive.isDriving : MarkDrive → Bool
  | .driving _ _ => true
  | .idle | .recognised => false

/-- Whether that drive is a cold start (R50). -/
def MarkDrive.isColdStart : MarkDrive → Bool
  | .driving cold _ => cold
  | .idle | .recognised => false

/-- The station's drive of a mark begins at an instant, unless it drives already (R47, R50). -/
def LineController.drive (l : LineController) (coldStart : Bool) (now : Instant) : LineController :=
  if l.markDrive.isDriving then l else { l with markDrive := .driving coldStart now }

/-- The deadline armed from the origin of the last mark. A deadline already past when it is armed falls
due at once, and the station drives (R47). -/
def State.armDeadline (s : State) : State :=
  match s.timer.origin with
  | none => s
  | some o =>
    let due := s.deadlineFrom o
    let s' := { s with timer.deadline := some due }
    if due ≤ s.clock then { s' with line := s.line.drive false s.clock } else s'

end Sys2Proof.Machine
end

