-- ==== Sys2Proof/Machine/Emulator.lean ====
section
/-! DEFINITION. The Pulse Emulator (Chapter 9): target and class (R154), step and alignment (R156), edges (R157), outputs
(R158), the test hold (R160) and RESTART (R161). -/

namespace Sys2Proof.Machine

/-- C of this emulator (R153). -/
def PulseEmulator.perTurn (e : PulseEmulator) : Nat := countsPerTurn e.res

/-- ENCA's level for a counter (Table 9-4). -/
def quadA (counter : Nat) : Bool := counter % 4 == 1 || counter % 4 == 2

/-- ENCB's level for a counter (Table 9-4). -/
def quadB (counter : Nat) : Bool := counter % 4 == 2 || counter % 4 == 3

/-- ENCZ's level for a state and a counter (R158). -/
def indexLevel (st : EmulatorState) (counter : Nat) : Bool :=
  (st == .follow || st == .lagging) && counter == 0

/-- The outputs brought to the levels R158 gives for the state and the counter. -/
def PulseEmulator.show (e : PulseEmulator) : PulseEmulator :=
  { e with enca := quadA e.counter, encb := quadB e.counter, encz := indexLevel e.state e.counter }

/-- The classes of a published row (R154). -/
inductive RowClass where
  | fresh | held | unavailable
  deriving DecidableEq, Repr

/-- The class of a published row (R154). -/
def PageRow.cls (r : PageRow) : RowClass :=
  if !r.present || r.stale then .unavailable else if r.holdAge = 0 then .fresh else .held

/-- The target of an angle (R154). -/
def targetOf (angle : Angle) (perTurn : Nat) : Nat := angle.toNat * perTurn / 65536

/-- The most counts an emission moves (R156, R157). -/
def maxEdges : Nat := 512

/-- A step by d (R156): an emission of at most 512 edges, and FOLLOW or LAGGING. -/
def PulseEmulator.stepBy (e : PulseEmulator) (d : Int) (now : Instant) : PulseEmulator :=
  let up := decide (0 < d)
  if d.natAbs ≤ maxEdges then
    { e with
      state := .follow
      emission := if d = 0 then none else some ⟨up, d.natAbs, 0, now⟩ }
  else { e with state := .lagging, emission := some ⟨up, maxEdges, 0, now⟩ }

/-- A publication by state and class (Table 9-3), the previous emission being stopped already. -/
def PulseEmulator.takeRow (e : PulseEmulator) (row : PageRow) (now : Instant) : PulseEmulator :=
  let target := targetOf row.angle e.perTurn
  let step := (e.stepBy (countDiff target e.counter e.perTurn) now).show
  match e.state, row.cls with
  | .idle, .fresh => { e with state := .follow, counter := target }.show
  | .idle, .held | .idle, .unavailable => e
  | .follow, .fresh | .follow, .held | .lagging, .fresh | .lagging, .held => step
  | .follow, .unavailable | .lagging, .unavailable => { e with state := .frozen }.show
  | .frozen, .fresh => step
  | .frozen, .held | .frozen, .unavailable => e

/-- A publication at the emulator (R156): the emission in flight is stopped, and with the test hold set
nothing more happens. -/
def PulseEmulator.publish (e : PulseEmulator) (row : PageRow) (now : Instant) : PulseEmulator :=
  let stopped := { e with emission := none }
  if e.testHold.isSome then stopped else stopped.takeRow row now

/-- The EMULATOR record of a change of state (R159). -/
def emulatorEvents (epoch : Epoch) (before after : EmulatorState) : List EventRecord :=
  if before = after then [] else [evEmulator epoch after]

/-- The instant of an emission's next edge (R157). -/
def Emission.nextEdge (em : Emission) (period : Nat) : Instant :=
  em.start + edgeTime period em.planned (em.emitted + 1)

/-- An emission edge (R157, R158): one count in the emission's direction; the emission ends at its last. -/
def PulseEmulator.edge (e : PulseEmulator) (em : Emission) : PulseEmulator :=
  let emitted := em.emitted + 1
  { e with
    counter := countStep em.up e.counter e.perTurn
    emission := if emitted ≥ em.planned then none else some { em with emitted := emitted } }.show

/-- The start of a test hold (R160). -/
def PulseEmulator.hold (e : PulseEmulator) : PulseEmulator :=
  { e with emission := none, testHold := some e.counter }

/-- The end of a test hold (R160): the test counter is discarded and the outputs take the levels of
the position counter. A hold that is clear stays clear and the outputs stay. -/
def PulseEmulator.unhold (e : PulseEmulator) : PulseEmulator :=
  if e.testHold.isSome then { e with testHold := none }.show else e

/-- The test counter moved by `n` counts, one at a time, modulo C (R168). -/
def moveCount (up : Bool) (perTurn : Nat) : Nat → Nat → Nat
  | 0, c => c
  | n + 1, c => moveCount up perTurn n (countStep up c perTurn)

/-- A PULSE move of the test counter (R168). -/
def PulseEmulator.moveTest (e : PulseEmulator) (up : Bool) : PulseEmulator :=
  { e with testHold := e.testHold.map (moveCount up e.perTurn 100) }

/-- RESTART at the emulator (R161): emission stopped, hold ended, FROZEN. -/
def PulseEmulator.restart (e : PulseEmulator) : PulseEmulator :=
  let e' := { e with emission := none }.unhold
  { e' with state := .frozen, encz := false }

end Sys2Proof.Machine
end

