-- ==== Sys2Proof/Machine/AxisTable.lean ====
section
/-! DEFINITION. The Axis Table between votes (Chapter 1): binding and unbinding (R10 to R12) and the delivery of the
Admission List (R8). -/

namespace Sys2Proof.Machine

/-- Whether a station is a source of a row. -/
def Row.has (r : Row) (k : Station) : Bool := r.sources.any fun src => src.station == k

/-- The row of an axis (R1). -/
def rowOf (rows : List Row) (axis : Axis) : Row := rows.getD axis.toNat Row.cleared

/-- The station's record inserted at the place that keeps ascending order (R2). -/
def insertSource (src : Source) : List Source → List Source
  | [] => [src]
  | x :: xs => if src.station < x.station then src :: x :: xs else x :: insertSource src xs

/-- A row with a station's record removed (R12). The row becomes UNBOUND when no source remains. -/
def Row.unbind (r : Row) (k : Station) : Row :=
  let rest := r.sources.filter fun src => src.station != k
  { r with sources := rest, state := if rest.isEmpty then .unbound else r.state }

/-- An unbind claim taken against rows numbered from `axis` (R12): the rows, and the ROW_STATE events
of rows that lose their last source. -/
def unbindFrom (e : Epoch) (k : Station) : Nat → List Row → List Row × List EventRecord
  | _, [] => ([], [])
  | axis, r :: rs =>
    let (rs', evs) := unbindFrom e k (axis + 1) rs
    if r.has k then
      let r' := r.unbind k
      (r' :: rs', if r'.sources.isEmpty then evRowState e axis .unbound r'.stale :: evs else evs)
    else (r :: rs', evs)

/-- An unbind claim (R12). -/
def unbindRows (e : Epoch) (rows : List Row) (k : Station) : List Row × List EventRecord := unbindFrom e k 0 rows

/-- The answers to a bind (R9). -/
inductive BindAnswer where
  | bound | already | refused
  deriving DecidableEq, Repr

/-- The most sources a row holds (R2). -/
def rowCapacity : Nat := 3

/-- Whether a row has a VOTING source (R10, case 3; R23). -/
def Row.hasVoting (r : Row) : Bool := r.sources.any fun src => src.standing == .voting

/-- A row with a new source bound into it (R10, case 3). -/
def Row.bind (r : Row) (k : Station) : Row :=
  { r with
    sources := insertSource ⟨k, if r.hasVoting then .candidate else .voting, 0, 0, none⟩ r.sources
    state := if r.state = .unbound then .lost else r.state }

/-- A bind claim (R10, R11): the rows, the answer, and the events in the order of R10's cases. -/
def bindRows (e : Epoch) (rows : List Row) (k : Station) (axis : Axis) (refused : Bool) :
    List Row × BindAnswer × List EventRecord :=
  if (rowOf rows axis).has k then (rows, .already, [])
  else
    let (rows', evs) := unbindRows e rows k
    let r := rowOf rows' axis
    if r.sources.length < rowCapacity then
      (rows'.set axis.toNat (r.bind k), .bound,
        evs ++ if r.state = .unbound then [evRowState e axis.toNat .lost r.stale] else [])
    else
      (rows', .refused, evs ++ if refused then [] else [evStationAxis .sourceRefused e k axis])

/-- An entry of the Admission List (Table 5-8). -/
structure AdmittedSample where
  station : Station
  axis : Axis
  angle : Angle
  velocity : Velocity
  usable : Bool
  deriving DecidableEq, Repr

/-- A source record with the sample the list places in it; absent where the list has none for the row's
axis (R8, steps 1 and 2). -/
def Source.place (src : Source) (axis : Nat) (list : List AdmittedSample) : Source :=
  { src with
    sample := (list.find? fun x => x.station == src.station && x.axis.toNat == axis).map
      fun x => ⟨x.angle, x.velocity, x.usable⟩ }

/-- The rows with the list's samples placed (R8). -/
def placeFrom (list : List AdmittedSample) : Nat → List Row → List Row
  | _, [] => []
  | axis, r :: rs =>
    { r with sources := r.sources.map fun src => src.place axis list } :: placeFrom list (axis + 1) rs

/-- The delivery of the Admission List: the samples are placed and the vote begins on a copy of the
rows (R8, R19). -/
def State.deliver (s : State) (list : List AdmittedSample) : State :=
  let rows := placeFrom list 0 s.engine.rows
  { s with
    engine.rows := rows
    engine.vote := some {
      rows := rows
      epoch := s.timer.epoch
      deliveredAt := s.clock
      testRuns := (s.tests.running.map TestRun.code) == some .vote } }

/-- The Axis Table cleared, with any vote in flight abandoned (R16, R17). -/
def State.clearTable (s : State) : State :=
  { s with engine := { rows := List.replicate 8 Row.cleared, vote := none } }

end Sys2Proof.Machine
end

