-- ==== Sys2Proof/Machine/Vote.lean ====
section
/-! DEFINITION. The vote (Chapter 2): stages 1 to 5 on one row (R20), the page row of stage 6 (R39) and the write-back
(R15). The VOTE self-test runs the same stages on its shadow rows (R167). -/

namespace Sys2Proof.Machine

/-- The source events a row's vote collects (Table 2-1). -/
inductive VoteEvent where
  | rebuilt
  | diverged (k : Station)
  | readmitted (k : Station)
  deriving DecidableEq, Repr

/-- A usable sample of a VOTING source, with its station. -/
structure VoteSample where
  station : Station
  angle : Angle
  velocity : Velocity
  deriving DecidableEq, Repr

/-- Stage 1: the rebuild (R23). -/
def Row.rebuild (r : Row) : Row × List VoteEvent :=
  if !r.sources.isEmpty && !r.hasVoting then
    ({ r with sources := r.sources.map fun src => { src with standing := .voting, disagreeRun := 0, agreeRun := 0 } },
      [.rebuilt])
  else (r, [])

/-- The usable sample a source holds, if any. -/
def Source.usableSample (src : Source) : Option SourceSample := src.sample.filter fun x => x.usable

/-- Stage 2: the usable samples of VOTING sources, in station order (R24); u is their number. -/
def Row.usableVoting (r : Row) : List VoteSample :=
  r.sources.filterMap fun src =>
    if src.standing = .voting then src.usableSample.map fun x => ⟨src.station, x.angle, x.velocity⟩ else none

/-- What stage 3 decides: the row state, the fresh value if there is one, the stations whose disagree
run becomes 0, and the station whose disagree run is increased. -/
structure Verdict where
  state : RowState
  fresh : Option (Angle × Velocity × StationSet)
  agreed : List Station
  outside : Option Station
  deriving DecidableEq, Repr

/-- The verdict of a pair that agrees (R29). -/
def pairVerdict (a b : VoteSample) (outside : Option Station) : Verdict where
  state := .agreed
  fresh := some (midAngle a.angle b.angle, midVelocity a.velocity b.velocity, stationSet [a.station, b.station])
  agreed := [a.station, b.station]
  outside := outside

/-- The verdict of a row whose samples do not agree (R28, R30). -/
def splitVerdict : Verdict := ⟨.split, none, [], none⟩

/-- A sample laid into place by its offset from the reference; a sample of equal offset keeps its place
before it, so equal offsets stay in station order (R25). -/
def insertByOffset (ref : Angle) (x : VoteSample) : List VoteSample → List VoteSample
  | [] => [x]
  | y :: ys =>
    if circDiff x.angle ref < circDiff y.angle ref then x :: y :: ys else y :: insertByOffset ref x ys

/-- The median of three samples given in station order: the second by offset from the first (R25). -/
def median (a b c : VoteSample) : VoteSample :=
  match insertByOffset a.angle c (insertByOffset a.angle b [a]) with
  | _ :: m :: _ => m
  | _ => a

/-- Three samples in station order (R25, R26, R28). -/
def tripleVerdict (tol : Nat) (a b c : VoteSample) : Verdict :=
  let m := median a b c
  let near := [a, b, c].filter fun x => anglesAgree tol x.angle m.angle
  if near.length ≥ 2 then
    { state := .agreed
      fresh := some (m.angle, m.velocity, stationSet (near.map VoteSample.station))
      agreed := near.map VoteSample.station
      outside := (([a, b, c].filter fun x => !anglesAgree tol x.angle m.angle).map VoteSample.station).head? }
  else
    match [a, b, c].filter fun x => x.station != m.station with
    | x :: y :: _ => if anglesAgree tol y.angle x.angle then pairVerdict x y (some m.station) else splitVerdict
    | _ => splitVerdict

/-- Stage 3: the VOTING result by u (Table 2-2). -/
def Row.verdict (r : Row) (tol : Nat) : Verdict :=
  match r.usableVoting with
  | [] => ⟨if r.sources.isEmpty then .unbound else .lost, none, [], none⟩
  | [a] => ⟨.single, some (a.angle, a.velocity, stationSet [a.station]), [], none⟩
  | [a, b] => if anglesAgree tol b.angle a.angle then pairVerdict a b none else splitVerdict
  | a :: b :: c :: _ => tripleVerdict tol a b c

/-- Stages 3 and 5 at one source. A VOTING source's disagree run is kept and may reach DIV (R26 to R28);
a probation source is judged against the fresh value and may reach READMIT (R35 to R37). -/
def Source.score (src : Source) (plan : Plan) (v : Verdict) : Source × List VoteEvent :=
  match src.standing with
  | .voting =>
    if v.agreed.contains src.station then ({ src with disagreeRun := 0 }, [])
    else if v.outside = some src.station then
      if src.disagreeRun + 1 ≥ plan.div then
        ({ src with standing := .diverged, disagreeRun := plan.div, agreeRun := 0 }, [.diverged src.station])
      else ({ src with disagreeRun := src.disagreeRun + 1 }, [])
    else (src, [])
  | .candidate | .diverged =>
    match v.fresh, src.usableSample with
    | some (angle, _, _), some x =>
      if anglesAgree plan.tol x.angle angle then
        if src.agreeRun + 1 ≥ plan.readmit then
          ({ src with standing := .voting, disagreeRun := 0, agreeRun := plan.readmit }, [.readmitted src.station])
        else ({ src with agreeRun := src.agreeRun + 1 }, [])
      else ({ src with agreeRun := 0 }, [])
    | _, _ => (src, [])

/-- Stage 4: the value, hold age and STALE flag of a fresh or held result (R33, R34). -/
def Row.settle (r : Row) (plan : Plan) (epoch : Epoch) (v : Verdict) : Row :=
  match v.fresh with
  | some (angle, velocity, used) =>
    { r with state := v.state, value := some ⟨angle, velocity, epoch, used⟩, holdAge := 0, stale := false }
  | none =>
    let age := min 255 (r.holdAge + 1)
    { r with state := v.state, holdAge := age, stale := r.stale || decide (age ≥ plan.stale) }

/-- Stages 1 to 5 on one row: the row, and its source events with ROW_REBUILT first and the others in
station order (R20, R21). -/
def Row.vote (r : Row) (plan : Plan) (epoch : Epoch) : Row × List VoteEvent :=
  let (r1, rebuilt) := r.rebuild
  let v := r1.verdict plan.tol
  let r2 := r1.settle plan epoch v
  ({ r2 with sources := r1.sources.map fun src => (src.score plan v).1 },
    rebuilt ++ r1.sources.flatMap fun src => (src.score plan v).2)

/-- Stage 6: the page row (Table 2-7). -/
def Row.pageRow (r : Row) : PageRow where
  state := r.state
  stale := r.stale
  present := r.value.isSome
  holdAge := r.holdAge
  angle := (r.value.map AgreedValue.angle).getD 0
  velocity := (r.value.map AgreedValue.velocity).getD 0
  usedSet := (r.value.map AgreedValue.usedSet).getD 0
  epoch := (r.value.map AgreedValue.epoch).getD 0

/-- The record of a source event, for the row of an axis (Table 2-1). -/
def VoteEvent.record (e : Epoch) (axis : Nat) : VoteEvent → EventRecord
  | .rebuilt => ⟨.rowRebuilt, e, none, some (BitVec.ofNat 3 axis), none⟩
  | .diverged k => evStationAxis .sourceDiverged e k (BitVec.ofNat 3 axis)
  | .readmitted k => evStationAxis .sourceReadmitted e k (BitVec.ofNat 3 axis)

/-- The source events of the vote's rows, in ascending axis number (R21). -/
def voteEventsFrom (e : Epoch) (plan : Plan) (epoch : Epoch) : Nat → List Row → List EventRecord
  | _, [] => []
  | axis, r :: rs =>
    ((r.vote plan epoch).2.map (VoteEvent.record e axis)) ++ voteEventsFrom e plan epoch (axis + 1) rs

/-! ## Write-back (R15) -/

/-- A table record with what the vote's record of the same station holds (R15, step 1). -/
def Source.writeBack (src : Source) (voted : Row) : Source :=
  match voted.sources.find? fun x => x.station == src.station with
  | some x => { src with standing := x.standing, disagreeRun := x.disagreeRun, agreeRun := x.agreeRun }
  | none => src

/-- The row state that agrees with the source list (R15, step 3). -/
def settledState (sources : List Source) (state : RowState) : RowState :=
  if sources.isEmpty then .unbound else if state = .unbound then .lost else state

/-- A table row after the write-back of a vote's row (R15, steps 1 to 3). -/
def Row.writeBack (table voted : Row) : Row where
  sources := table.sources.map fun src => src.writeBack voted
  state := settledState table.sources voted.state
  value := voted.value
  holdAge := voted.holdAge
  stale := voted.stale

/-- The table after the write-back (R15). -/
def writeBackRows (table voted : List Row) : List Row := List.zipWith Row.writeBack table voted

/-- The ROW_STATE events of a write-back, in ascending axis number (R15, step 4). -/
def rowStateEventsFrom (e : Epoch) : Nat → List Row → List Row → List EventRecord
  | axis, before :: bs, after :: as =>
    (if before.state ≠ after.state ∨ before.stale ≠ after.stale
      then [evRowState e axis after.state after.stale] else []) ++ rowStateEventsFrom e (axis + 1) bs as
  | _, _, _ => []

end Sys2Proof.Machine
end

