-- ==== Sys2Proof/Machine/Store.lean ====
section
/-! DEFINITION. The Snapshot Store (Chapter 8): roles, publication (R137), the pin (R139 to R142), and the page on the port
(R175, Table 11-7). -/

namespace Sys2Proof.Machine

/-- A page by number. -/
def SnapshotStore.page (st : SnapshotStore) (p : PageNumber) : Page := st.pages.getD p.val Page.cleared

/-- The store with a page replaced. -/
def SnapshotStore.setPage (st : SnapshotStore) (p : PageNumber) (pg : Page) : SnapshotStore :=
  { st with pages := st.pages.set p.val pg }

/-- Whether a page is pinned. -/
def SnapshotStore.pinned (st : SnapshotStore) (p : PageNumber) : Bool := (st.pin.map Pin.page) == some p

/-- The stations of the peers that are PRESENT or SILENT, and the own station while it is a member:
the present set (Table 8-2). -/
def MembershipUnit.presentSet (m : MembershipUnit) : StationSet :=
  stationSet (allStations.filter fun k =>
    let st := (m.peers.getD k.toNat PeerEntry.cleared).state
    st == .present || st == .silent || (k == m.ownStation && m.selfState.member))

/-- The page as published: the vote's rows, and the header as the station stands (R136, R137 step 1). -/
def State.publishedPage (s : State) (rows : List Row) (epoch : Epoch) : Page where
  valid := true
  epoch := epoch
  selfMarked := s.timer.selfMarked
  selfState := s.member.selfState
  presentSet := s.member.presentSet
  live := s.sensor.live
  held := s.faults.held
  rows := rows.map Row.pageRow

/-- The next FILL page: of the pages that are not FRONT, the earliest in the spare order that is not
pinned (R137, step 4). The candidates listed after the spare order are there for totality alone. -/
def SnapshotStore.nextFill (st : SnapshotStore) (front : PageNumber) : PageNumber :=
  ((st.spare ++ [0, 1, 2]).find? fun p => p != front && !st.pinned p).getD st.fill

/-- Publication: steps 1 to 5 of R137. -/
def SnapshotStore.publish (st : SnapshotStore) (pg : Page) (now : Instant) : SnapshotStore :=
  let front := st.fill
  let st1 := { st.setPage front pg with spare := st.spare ++ st.front.toList }
  let fill := st1.nextFill front
  { st1.setPage fill { st1.page fill with valid := false } with
    fill := fill
    front := some front
    spare := st1.spare.filter fun p => p != fill
    eps := some now }

/-- Publication as the Snapshot Store and the Pulse Emulator take it (R137): the page becomes FRONT, EPS
rises, and the emulator takes the own axis's row, with its EMULATOR record (R159). -/
def State.publish (s : State) (rows : List Row) (epoch : Epoch) : State :=
  let pg := s.publishedPage rows epoch
  let emu := s.emulator.publish (pg.rows.getD s.member.ownAxis.toNat PageRow.cleared) s.clock
  { s with store := s.store.publish pg s.clock, emulator := emu }.emit
    (emulatorEvents s.timer.epoch s.emulator.state emu.state)

/-- The store after reset and RESTART (Table 8-1). -/
def SnapshotStore.initial : SnapshotStore where
  pages := List.replicate 3 Page.cleared
  fill := 0
  front := none
  spare := [1, 2]
  pin := none
  eps := none

/-- The release of a TRANSACTION pin at the end of its transaction (R141, R148). -/
def SnapshotStore.releaseTransaction (st : SnapshotStore) : SnapshotStore :=
  match st.pin with
  | some ⟨_, .transaction⟩ => { st with pin := none }
  | _ => st

/-! ## Bytes (Table 11-7) -/

/-- A page row: 10 bytes. -/
def PageRow.bytes (r : PageRow) : List Byte :=
  [BitVec.ofNat 8 (r.state.code + 8 * r.stale.toNat + 16 * r.present.toNat), BitVec.ofNat 8 r.holdAge]
    ++ bytes16 r.angle ++ bytes16 r.velocity ++ bytes16 r.usedSet ++ bytes16 r.epoch

/-- A page: the 8-byte header, then rows 0 to 7. -/
def Page.bytes (p : Page) : List Byte :=
  [BitVec.ofNat 8 (128 * p.valid.toNat + 64 * p.selfMarked.toNat + p.selfState.code)]
    ++ bytes16 p.epoch ++ bytes16 p.presentSet ++ [p.live.setWidth 8] ++ bytes16 (p.held.setWidth 16)
    ++ p.rows.flatMap PageRow.bytes

/-- What READ_PAGE answered NO_PAGE returns: the valid flag clear and every other field 0 (R141). -/
def noPageBytes : List Byte := List.replicate 88 0

end Sys2Proof.Machine
end

