-- ==== Sys2Proof/Machine/SelfTest.lean ====
section
/-! DEFINITION. The Self-Test Unit (Chapter 10): the start (R164), the steps (R165, R166, R168), the VOTE cases (R167), the end (R169)
and the abort (R170). -/

namespace Sys2Proof.Machine

/-- The length of a test (Table 10-2). -/
def TestCode.length : TestCode → Nat
  | .inject => 12
  | .monitor => 10
  | .vote => 1
  | .pulse => 4

/-- Whether a test marks the own sample TEST (R63, R164). -/
def TestCode.marksSample : TestCode → Bool
  | .inject | .monitor => true
  | .vote | .pulse => false

/-- Whether an INJECT or MONITOR test is in progress (R63). -/
def SelfTestUnit.samplesUnderTest (t : SelfTestUnit) : Bool :=
  match t.running with
  | some r => r.code.marksSample
  | none => false

/-- Whether a test of a code is in progress. -/
def SelfTestUnit.runs (t : SelfTestUnit) (c : TestCode) : Bool := (t.running.map TestRun.code) == some c

/-- The angle INJECT supplies at its mark m (R165). -/
def injectAngle (m : Nat) : Angle := if m ≤ 4 then 0x1555 else if m ≤ 8 then 0x9AAA else 0xF000

/-- The injected angle for the coming mark, while INJECT is in progress (R165). -/
def SelfTestUnit.injected (t : SelfTestUnit) : Option Angle :=
  match t.running with
  | some ⟨.inject, step, _⟩ => some (injectAngle (step + 1))
  | _ => none

/-- The condition MONITOR checks at its mark m: each for two marks, in order (Table 10-3). -/
def monitorCond (m : Nat) : FaultKind := sensorKinds.getD ((m - 1) / 2) .tracking

/-! ## The end of a test -/

/-- The ending effects of a test (R169, step 2): injection stops with the test in progress, MONITOR's
forced conditions are emptied, PULSE's hold is cleared, and the shadow of a VOTE test is discarded (R170). -/
def State.endEffects (s : State) (c : TestCode) : State :=
  match c with
  | .inject => s
  | .monitor => { s with sensor.forced := 0 }
  | .vote => { s with engine.vote := s.engine.vote.map fun v => { v with testRuns := false } }
  | .pulse => { s with emulator := s.emulator.unhold }

/-- Steps 1 and 2 of R169: the result record takes the outcome and the ending epoch, the test in progress
becomes none, and the test's own ending effects are taken. -/
def State.finishTest (s : State) (c : TestCode) (o : TestOutcome) : State :=
  { s with tests := { running := none, result := some ⟨c, o, some s.timer.epoch⟩ } }.endEffects c

/-- The TEST notice with phase END that INJECT and MONITOR post in ACTIVE (R169, step 4). -/
def State.postTestEnd (s : State) (c : TestCode) (o : TestOutcome) : State :=
  if c.marksSample ∧ s.member.selfState = .active then s.post .test (testEndArgument c o) else s

/-- The SELFTEST fault of a FAIL, with its FAULT notice (R169 step 5, R132). -/
def State.failSelfTest (s : State) : State :=
  { s with faults := s.faults.set .selfTest }.postFaultChange s.faults.held

/-- The end of a test with PASS or FAIL (R169), without its records. -/
def State.endTest (s : State) (c : TestCode) (o : TestOutcome) : State :=
  let s' := (s.finishTest c o).postTestEnd c o
  match o with
  | .fail _ => s'.failSelfTest
  | .running | .pass | .aborted _ => s'

/-- The records of a test's end: TEST_DONE, and FAULT_HELD where SELFTEST was not held (R169). -/
def State.endTestEvents (s : State) (c : TestCode) (o : TestOutcome) : List EventRecord :=
  evTestDone s.timer.epoch c o ::
    match o with
    | .fail _ => faultEvents s.faults s.timer.epoch .selfTest
    | .running | .pass | .aborted _ => []

/-- Which tests an abort reaches: STATE reaches INJECT and MONITOR, the others any test (R170). -/
def AbortReason.reaches (why : AbortReason) (c : TestCode) : Bool :=
  match why with
  | .state => c.marksSample
  | .restart | .lockout => true

/-- The abort of a test in progress (R170), without its record. -/
def State.abortTest (s : State) (why : AbortReason) : State :=
  match s.tests.running with
  | some r => if why.reaches r.code then s.finishTest r.code (.aborted why) else s
  | none => s

/-- The TEST_DONE of an abort (R170). -/
def State.abortEvents (s : State) (why : AbortReason) : List EventRecord :=
  match s.tests.running with
  | some r => if why.reaches r.code then [evTestDone s.timer.epoch r.code (.aborted why)] else []
  | none => []

/-! ## Steps at marks -/

/-- What a test counted by marks decides at a mark: `none` goes on, `some` ends it. -/
abbrev StepResult := Option TestOutcome

/-- The decision at mark m of a test (R165, R166, R168). The readbacks come with the mark. -/
def testDecision (c : TestCode) (m : Nat) (inp : MarkInputs) (counter perTurn : Nat) : StepResult :=
  match c with
  | .inject =>
    if circMag inp.latchReadback (injectAngle m) ≤ 2 then (if m ≥ 12 then some .pass else none)
    else some (.fail m)
  | .monitor =>
    if condHolds inp.liveReadback (monitorCond m) then (if m ≥ 10 then some .pass else none)
    else some (.fail m)
  | .pulse =>
    if m = 2 then (if inp.countReadback.toNat = (counter + 100) % perTurn then none else some (.fail 2))
    else if m ≥ 4 then (if inp.countReadback.toNat = counter then some .pass else some (.fail 4))
    else none
  | .vote => none

/-- What a test step does before it is decided to end: the step is counted, MONITOR rewrites the
forced conditions at its even marks, PULSE moves the test counter at marks 1 and 3. -/
def State.stepTest (s : State) (r : TestRun) : State :=
  let m := r.step + 1
  let s' := { s with tests.running := some ⟨r.code, m, r.remaining - 1⟩ }
  match r.code with
  | .monitor => if m % 2 = 0 then { s' with sensor.forced := condMask (monitorCond (m + 1)) } else s'
  | .pulse =>
    if m = 1 then { s' with emulator := s.emulator.moveTest true }
    else if m = 3 then { s' with emulator := s.emulator.moveTest false }
    else s'
  | .inject | .vote => s'

/-- The test step of a mark: `some` outcome when the test ends at it. -/
def State.testOutcomeAt (s : State) (inp : MarkInputs) : Option (TestCode × TestOutcome) :=
  match s.tests.running with
  | some r =>
    (testDecision r.code (r.step + 1) inp s.emulator.counter s.emulator.perTurn).map fun o => (r.code, o)
  | none => none

/-- The test step of a mark, without its records: a test counted by marks goes on or ends. -/
def State.testAtMark (s : State) (inp : MarkInputs) : State :=
  match s.tests.running with
  | none => s
  | some r =>
    if r.code = .vote then s
    else match s.testOutcomeAt inp with
      | some (c, o) => s.endTest c o
      | none => s.stepTest r

/-- The records of the test step of a mark. -/
def State.testEventsAt (s : State) (inp : MarkInputs) : List EventRecord :=
  match s.testOutcomeAt inp with
  | some (c, o) => s.endTestEvents c o
  | none => []

/-! ## The VOTE cases (R167) -/

/-- A shadow source: station, standing, runs and a sample with velocity 10. -/
def shadowSource (k : Station) (st : Standing) (disagree agree : Nat) (angle : Nat) : Source :=
  ⟨k, st, disagree, agree, some ⟨BitVec.ofNat 16 angle, 10, true⟩⟩

/-- A shadow row before its case: value absent, hold age 0, STALE clear unless the case says otherwise. -/
def shadowRow (sources : List Source) : Row := ⟨sources, .lost, none, 0, false⟩

/-- What a case compares: state, value and used set, hold age, STALE, standings and runs, events. -/
structure VoteExpectation where
  state : RowState
  value : Option (Angle × Velocity × StationSet)
  holdAge : Nat
  stale : Bool
  sources : List (Station × Standing × Nat × Nat)
  events : List VoteEvent
  deriving DecidableEq, Repr

/-- What a shadow row shows after its vote. -/
def shadowResult (plan : Plan) (r : Row) : VoteExpectation :=
  let (r', evs) := r.vote plan 0
  { state := r'.state
    value := r'.value.map fun v => (v.angle, v.velocity, v.usedSet)
    holdAge := r'.holdAge
    stale := r'.stale
    sources := r'.sources.map fun src => (src.station, src.standing, src.disagreeRun, src.agreeRun)
    events := evs }

/-- The value case 4's shadow row holds before its vote; Table 10-4 asks only that it is kept. -/
def shadowValue : AgreedValue := ⟨1000, 10, 0, 0b11⟩

/-- The six cases of Table 10-4: the shadow row and the expected result. -/
def voteCases (p : Plan) : List (Row × VoteExpectation) :=
  [ (shadowRow [shadowSource 0 .voting 0 0 1000, shadowSource 1 .voting 0 0 (1000 + p.tol),
        shadowSource 2 .voting 0 0 (1000 - p.tol)],
      ⟨.agreed, some (1000, 10, 0b111), 0, false,
        [(0, .voting, 0, 0), (1, .voting, 0, 0), (2, .voting, 0, 0)], []⟩),
    (shadowRow [shadowSource 0 .voting 0 0 1000, shadowSource 1 .voting 0 0 1001,
        shadowSource 2 .voting (p.div - 1) 0 (1002 + p.tol)],
      ⟨.agreed, some (1001, 10, 0b11), 0, false,
        [(0, .voting, 0, 0), (1, .voting, 0, 0), (2, .diverged, p.div, 0)], [.diverged 2]⟩),
    (shadowRow [shadowSource 0 .voting 0 0 0, shadowSource 1 .voting 0 0 (32768 + p.tol / 4),
        shadowSource 2 .voting 0 0 (32768 - p.tol / 4)],
      ⟨.agreed, some (32768, 10, 0b110), 0, false,
        [(0, .voting, 1, 0), (1, .voting, 0, 0), (2, .voting, 0, 0)], []⟩),
    ({ shadowRow [shadowSource 0 .voting 0 0 1000, shadowSource 1 .voting 0 0 (1001 + p.tol)] with
        value := some shadowValue, holdAge := p.stale - 1 },
      ⟨.split, some (shadowValue.angle, shadowValue.velocity, shadowValue.usedSet), p.stale, true,
        [(0, .voting, 0, 0), (1, .voting, 0, 0)], []⟩),
    (shadowRow [shadowSource 0 .voting 0 0 5000, shadowSource 1 .candidate 0 (p.readmit - 1) (5000 + p.tol)],
      ⟨.single, some (5000, 10, 0b1), 0, false,
        [(0, .voting, 0, 0), (1, .voting, 0, p.readmit)], [.readmitted 1]⟩),
    (shadowRow [shadowSource 0 .diverged 0 0 2000, shadowSource 1 .diverged 0 0 2002],
      ⟨.agreed, some (2001, 10, 0b11), 0, false,
        [(0, .voting, 0, 0), (1, .voting, 0, 0)], [.rebuilt]⟩) ]

/-- The number of the first failing case, counting from `n` (R167). -/
def firstFailing (p : Plan) : Nat → List (Row × VoteExpectation) → Option Nat
  | _, [] => none
  | n, (r, want) :: rest => if shadowResult p r = want then firstFailing p (n + 1) rest else some n

/-- The outcome of the VOTE test: FAIL with the lowest failing case, or PASS (R167). -/
def voteTestOutcome (p : Plan) : TestOutcome :=
  match firstFailing p 1 (voteCases p) with
  | some n => .fail n
  | none => .pass

/-! ## The start (R164) -/

/-- The start of a test (R164). -/
def State.startTest (s : State) (c : TestCode) : State :=
  let s1 := { s with
    tests := { running := some ⟨c, 0, c.length⟩, result := some ⟨c, .running, none⟩ } }
  let s2 := if c.marksSample ∧ s.member.selfState = .active then s1.post .test (testStartArgument c) else s1
  match c with
  | .monitor => { s2 with sensor.forced := condMask .lossSin }
  | .pulse => { s2 with emulator := s.emulator.hold }
  | .inject | .vote => s2

end Sys2Proof.Machine
end

