-- ==== Sys2Proof/Machine/Sensor.lean ====
section
/-! DEFINITION. The Sensor Interface at a mark (Chapter 7): conditions (R120), Converter (R123, R124), tracking window (R121), latch
(R125), velocity (R126), flags (R127) and held faults (R129); realignment (R124) and CLEAR_FAULTS (R130). -/

namespace Sys2Proof.Machine

/-- Whether a condition that moves the Converter to HOLD is measured live (R123). -/
def lossLive (m : MarkInputs) : Bool := m.sinLow || m.cosLow || m.excAbsent

/-- The converter state and acquisition count after step 2 (Table 7-4). -/
def convStep (m : MarkInputs) (conv : ConverterState) (count : Nat) : ConverterState × Nat :=
  if lossLive m then (.hold, 0)
  else match conv with
    | .hold => (.acquire, 0)
    | .acquire =>
      if m.belowLock then (if count + 1 ≥ 16 then (.track, 16) else (.acquire, count + 1)) else (.acquire, 0)
    | .track => (.track, count)

/-- The tracking window after step 3 (R121, R124): a result is entered unless the Converter is in HOLD
before or after step 2, and leaving HOLD empties the window. -/
def windowStep (dw : BitVec 2) (before after : ConverterState) (exceeded : Bool) (w : List Bool) : List Bool :=
  match before, after with
  | .hold, .hold | .acquire, .hold | .track, .hold => w
  | .hold, .acquire | .hold, .track => []
  | .acquire, .acquire | .acquire, .track | .track, .acquire | .track, .track =>
    let w' := w ++ [exceeded]
    w'.drop (w'.length - windowLength dw)

/-- TRACKING is evaluated live when more than W/2 results are EXCEEDED (R121). -/
def trackingLive (dw : BitVec 2) (w : List Bool) : Bool := decide (w.count true > windowLength dw / 2)

/-- Steps 1 to 7 of a mark (R119), with the angle INJECT supplies, if any. -/
def SensorInterface.mark (x : SensorInterface) (m : MarkInputs) (injected : Option Angle) (underTest : Bool) :
    SensorInterface :=
  let (conv, count) := convStep m x.conv x.acqCount
  let window := windowStep x.dw x.conv conv m.exceeded x.window
  let tracking := trackingLive x.dw window
  let own : Angle := if conv = .hold then x.prevLatch.getD 0 else m.tracked
  let latched := injected.getD own
  { x with
    conv := conv
    acqCount := count
    window := window
    evaluated := condSet m.sinLow m.cosLow m.sumOut m.excAbsent tracking
    prevLatch := some own
    sample := {
      angle := latched
      velocity := match x.prevLatch with
        | none => 0
        | some prev => velocityFrom latched prev
      settling := conv == .acquire
      sensorFault := conv == .hold || m.sumOut || tracking }
    underTest := underTest }

/-- The sensor kinds that step 8 of a mark sets (R129). -/
def State.newSensorKinds (s : State) : List FaultKind :=
  sensorKinds.filter fun k => condHolds s.sensor.evaluated k && !holds s.faults.held k

/-- Step 8 of a mark: the held set and FLT, and the FAULT notice once for the whole step (R129, R131, R132). -/
def State.holdSensorFaults (s : State) : State :=
  { s with faults := s.newSensorKinds.foldl FaultRegister.set s.faults }.postFaultChange s.faults.held

/-- The FAULT_HELD records of step 8 (R129). They carry the number that the mark's advance has given: that the
advance comes before step 8 of the same recognition is the model's choice (log 33). -/
def State.sensorFaultEvents (s : State) : List EventRecord :=
  s.newSensorKinds.map (evFaultHeld s.timer.epoch)

/-- The Converter's realignment at an entry to JOINING: the excitation takes the phase of the last mark's
origin, and the Converter enters ACQUIRE (R124). -/
def State.realign (s : State) : State :=
  { s with
    sensor.excitation := s.timer.origin
    sensor.conv := .acquire
    sensor.acqCount := 0
    sensor.window := [] }

/-- The held set and FLT after CLEAR_FAULTS: a kind stays only while its live condition is evaluated
live (R130, R131). -/
def FaultRegister.clear (f : FaultRegister) (live : FaultSet) : FaultRegister :=
  let held := f.held &&& live
  ⟨held, held != 0⟩

/-- CLEAR_FAULTS at the Fault Register, with the FAULT notice of R132. -/
def State.clearFaults (s : State) : State :=
  { s with faults := s.faults.clear s.sensor.liveKinds }.postFaultChange s.faults.held

end Sys2Proof.Machine
end

