-- ==== Sys2Proof/Machine/Membership.lean ====
section
/-! DEFINITION. The changes of the self state and their effects at every block (R80, Table 5-2): JOINING (R92), ACTIVE (R93),
LISTEN by failing (R95), LEAVING (R96), WITHDRAWN (R97), LOCKOUT (R100); and the Peer Table's single entries. -/

namespace Sys2Proof.Machine

/-- A Peer Table entry by station number. -/
def MembershipUnit.peer (m : MembershipUnit) (k : Station) : PeerEntry := m.peers.getD k.toNat PeerEntry.cleared

/-- The table with one entry replaced. -/
def MembershipUnit.setPeer (m : MembershipUnit) (k : Station) (p : PeerEntry) : MembershipUnit :=
  { m with peers := m.peers.set k.toNat p }

/-- An entry that becomes ABSENT by loss or by LEAVE: what R86 sets, and what it keeps for READ_PEERS. -/
def PeerEntry.lose (p : PeerEntry) : PeerEntry :=
  { p with
    state := .absent
    heardRun := 0
    missRun := 0
    bound := false
    refused := false
    reported := 0
    testReport := none }

/-- An unbind claim of the own station taken against the table, without its record, the own flags
cleared (R9, R101). -/
def State.unbindOwn (s : State) : State :=
  { s with
    engine.rows := (unbindRows s.timer.epoch s.engine.rows s.member.ownStation).1
    member.ownBound := false
    member.ownRefused := false }

/-- The ROW_STATE record of that claim (R12). -/
def State.unbindOwnEvents (s : State) : List EventRecord :=
  (unbindRows s.timer.epoch s.engine.rows s.member.ownStation).2

/-- Entry to JOINING (R92), without its records: runs reset, Converter realigned, INJECT and MONITOR
aborted, deadline armed from the origin of the last mark. -/
def State.enterJoining (s : State) : State :=
  let fromListen := s.member.selfState == .listen
  let s1 := { s with
    member.selfState := .joining
    member.joinRun := 0
    member.joinEpochs := 0
    member.listenRun := if fromListen then 0 else s.member.listenRun
    member.mismatchRun := if fromListen then 0 else s.member.mismatchRun }
  (s1.realign.abortTest .state).armDeadline

/-- The records of an entry to JOINING: STATION_STATE, then the TEST_DONE of an aborted test (R80, R170). -/
def State.joiningEvents (s : State) : List EventRecord :=
  evStationState s.timer.epoch .joining :: s.abortEvents .state

/-- Entry to ACTIVE (R93). -/
def State.enterActive (s : State) : State :=
  { s with member.selfState := .active, member.unheardRun := 0 }

/-- Entry to LISTEN by JOIN_FAILED or TX_UNHEARD (R95): Peer Table and Axis Table cleared, every run 0,
own flags cleared, deadline disarmed, listen timer restarted. -/
def State.fallToListen (s : State) : State :=
  { s.clearTable with
    member := { s.member with
      selfState := .listen
      listenRun := 0
      mismatchRun := 0
      joinRun := 0
      joinEpochs := 0
      unheardRun := 0
      ownBound := false
      ownRefused := false
      peers := List.replicate 16 PeerEntry.cleared }
    timer.deadline := none
    timer.listenTimer := 0 }

/-- The Notice Queue emptied, with a frame in flight released (R110, R115). -/
def LineController.clearNotices (l : LineController) : LineController :=
  { l with notices := [], noticeSend := .idle }

/-- Entry to LOCKOUT (R100), without its records: the own station unbound if it was bound, the own flags
cleared, the schedule stopped and the deadline disarmed, the Notice Queue cleared, a running test aborted. A vote in
flight goes on (R19, R22); it completes without a publication (R162, log 36). -/
def State.enterLockout (s : State) : State :=
  let s1 := if s.member.ownBound then s.unbindOwn
    else { s with member.ownBound := false, member.ownRefused := false }
  let s2 := { s1 with
    member.selfState := .lockout
    timer.position := .none
    timer.roundOpen := false
    timer.deadline := none
    line := { s1.line.clearNotices with receiver := .off, awaiting := false } }
  s2.abortTest .lockout

/-- The ROW_STATE record of the unbind at an entry to LOCKOUT (R100). -/
def State.lockoutUnbindEvents (s : State) : List EventRecord :=
  if s.member.ownBound then s.unbindOwnEvents else []

/-- STATION_STATE of an entry to LOCKOUT, then the TEST_DONE of an aborted test (R100, R170). -/
def State.lockoutEvents (s : State) : List EventRecord :=
  evStationState s.timer.epoch .lockout :: s.abortEvents .lockout

/-- A held fault set by a block, without its record (R128). -/
def State.setFault (s : State) (k : FaultKind) : State := { s with faults := s.faults.set k }

/-- DUPLICATE_ID raised to the Fault Register and to the Membership Unit (R66, R70, R113): the fault is held
and the station enters LOCKOUT. The records of the Fault Register, the Agreement Engine and the
Membership Unit enter together (R145, log 5). In LOCKOUT it cannot be raised (R100). -/
def State.raiseDuplicateId (s : State) : State :=
  if s.member.selfState = .lockout then s
  else
    ((s.setFault .duplicateId).enterLockout).emitTogether
      [faultEvents s.faults s.timer.epoch .duplicateId, s.lockoutUnbindEvents, s.lockoutEvents]

/-- The change from LEAVING to WITHDRAWN, without its record (R97). -/
def State.enterWithdrawn (s : State) : State :=
  { s with member.selfState := .withdrawn, timer.deadline := none }

end Sys2Proof.Machine
end

