-- ==== Sys2Proof/Machine/Admission.lean ====
section
/-! DEFINITION. Admission at a close (R81): the majority rule (R82, R83), the Peer Table (R85 to R87), the self state
(R90 to R95), the bind claims (R101) and the Admission List (R102). -/

namespace Sys2Proof.Machine

/-- A slot record by station number. -/
def LineController.record (l : LineController) (k : Station) : SlotRecord := l.buffer.getD k.toNat .empty

/-- The frame of a valid record. -/
def SlotRecord.frame? : SlotRecord → Option FrameRecord
  | .valid f => some f
  | .empty | .invalid _ => none

/-! ## Step 1: the epoch majority rule -/

/-- The carriers of epoch values in ascending station number: the valid records, and the own station
when its frame was sent (R82). -/
def State.carriers (s : State) (sent : Bool) : List (Station × Epoch) :=
  allStations.flatMap fun k =>
    ((s.line.record k).frame?.map fun f => (k, f.epoch)).toList
      ++ (if sent ∧ k = s.member.ownStation then [(k, s.timer.epoch)] else [])

/-- How many carriers a value has. -/
def carrierCount (cs : List (Station × Epoch)) (e : Epoch) : Nat := cs.countP fun c => c.2 == e

/-- The greatest count of any value. -/
def greatestCount (cs : List (Station × Epoch)) : Nat := (cs.map fun c => carrierCount cs c.2).foldl max 0

/-- The winning value: of the values with the greatest count, the one carried by the lowest-numbered
station; `none` when no value was counted (R82). -/
def majority (cs : List (Station × Epoch)) : Option Epoch :=
  (cs.find? fun c => carrierCount cs c.2 == greatestCount cs).map Prod.snd

/-- The value adopted at step 1, if the winning value differs from the own (R82, R83). -/
def State.adoption (s : State) (sent : Bool) : Option Epoch :=
  (majority (s.carriers sent)).filter fun e => e != s.timer.epoch

/-- Step 1 of admission: adoption sets the epoch number and appends RESYNC, and an ACTIVE station then
enters JOINING (R83). -/
def State.adopt (s : State) : Option Epoch → State
  | none => s
  | some e =>
    let s1 := { s with timer.epoch := e }.emit [evPlain .resync e]
    if s1.member.selfState = .active then s1.enterJoining.emit s1.joiningEvents else s1

/-! ## Step 2: the Peer Table -/

/-- The admitted frame of a station: a valid record with the own epoch number as step 1 left it (R83). -/
def State.admitted (s : State) (k : Station) : Option FrameRecord :=
  (s.line.record k).frame?.filter fun f => f.epoch == s.timer.epoch

/-- An unbind claim for a peer, with its ROW_STATE record (R12). -/
def State.unbindPeer (s : State) (k : Station) : State :=
  let (rows, evs) := unbindRows s.timer.epoch s.engine.rows k
  { s with engine.rows := rows }.emit evs

/-- What every admitted frame writes into an entry (R85). -/
def PeerEntry.hear (p : PeerEntry) (f : FrameRecord) : PeerEntry :=
  { p with axis := f.axis, frameState := f.state, flags := f.flags, heard := f.heard, lastEpoch := f.epoch }

/-- Table 5-6: the state and runs of an entry with an admitted frame. -/
def PeerEntry.advance (p : PeerEntry) : PeerEntry :=
  match p.state with
  | .absent => { p with state := .new, heardRun := 1 }
  | .new => { p with state := .present, heardRun := 0 }
  | .present | .silent => { p with state := .present, missRun := 0 }

/-- Whether a peer is counted: PRESENT or SILENT. -/
def PeerState.counted : PeerState → Bool
  | .present | .silent => true
  | .absent | .new => false

/-- Whether an admitted frame changes the axis of a counted peer (R87). -/
def PeerEntry.changesAxis (p : PeerEntry) (f : FrameRecord) : Bool := p.state.counted && p.axis != f.axis

/-- The flags of an entry at an axis change: a bound peer's bound flag is cleared with its unbind, an
unbound peer's refused flag is cleared (R87). -/
def PeerEntry.moveAxis (p : PeerEntry) (f : FrameRecord) : PeerEntry :=
  if p.changesAxis f then (if p.bound then { p with bound := false } else { p with refused := false }) else p

/-- One entry at a close with an admitted frame (R85, R87). -/
def State.hearPeer (s : State) (k : Station) (f : FrameRecord) : State :=
  let p := s.member.peer k
  let s1 := if p.changesAxis f ∧ p.bound then s.unbindPeer k else s
  let p' := ((p.moveAxis f).advance).hear f
  let s2 := { s1 with member := s1.member.setPeer k p' }
  if p.state = .new then s2.emit [evStationAxis .peerJoined s.timer.epoch k f.axis] else s2

/-- One entry at a close without an admitted frame (R86). -/
def State.missPeer (s : State) (k : Station) : State :=
  let p := s.member.peer k
  match p.state with
  | .absent => s
  | .new => { s with member := s.member.setPeer k p.lose }
  | .present => { s with member := s.member.setPeer k { p with state := .silent, missRun := 1 } }
  | .silent =>
    if p.missRun + 1 ≥ 4 then
      let s1 := { s with member := s.member.setPeer k p.lose }.emit [evStation .peerLost s.timer.epoch k]
      if p.bound then s1.unbindPeer k else s1
    else { s with member := s.member.setPeer k { p with missRun := p.missRun + 1 } }

/-- Step 2 of admission at one station: the own entry and entries at or above N are left (R84). -/
def State.updatePeer (s : State) (k : Station) : State :=
  if k = s.member.ownStation ∨ s.plan.n ≤ k.toNat then s
  else match s.admitted k with
    | some f => s.hearPeer k f
    | none => s.missPeer k

/-- Step 2 of admission: the entries in ascending station number (R81). -/
def State.updatePeers (s : State) : State := allStations.foldl State.updatePeer s

/-! ## Step 3: the self state -/

/-- The admitted frames, in ascending station number. -/
def State.admittedFrames (s : State) : List (Station × FrameRecord) :=
  allStations.filterMap fun k => (s.admitted k).map fun f => (k, f)

/-- The admitted frames of peers that are PRESENT after step 2 (R93, R94). -/
def State.presentFrames (s : State) : List FrameRecord :=
  (s.admittedFrames.filter fun x => (s.member.peer x.1).state == .present).map Prod.snd

/-- Whether some frame carries the own station in its heard set (R93, R94). -/
def State.heardBy (s : State) (frames : List FrameRecord) : Bool :=
  frames.any fun f => inSet f.heard s.member.ownStation

/-- Whether a close is a plan-mismatch close (R91). -/
def mismatchClose (buffer : List SlotRecord) : Bool :=
  (buffer.any fun r => r == .invalid .plan)
    && !(buffer.any fun r => r.frame?.isSome || r == .invalid .slot || r == .invalid .own)

/-- LISTEN at step 3 (R90, R91). -/
def State.testListen (s : State) (adopted : Bool) : State :=
  let mismatch := if mismatchClose s.line.buffer then s.member.mismatchRun + 1 else 0
  let s1 := { s with member.mismatchRun := mismatch }
  if mismatch ≥ 8 then
    ((({ s1 with member.listenRun := 0 }.setFault .planMismatch).enterLockout).emit
        (faultEvents s.faults s.timer.epoch .planMismatch)).emit
      (s1.lockoutUnbindEvents ++ s1.lockoutEvents)
  else if s.admittedFrames.isEmpty then { s1 with member.listenRun := 0 }
  else if s.member.listenRun = 1 ∧ adopted = false then s1.enterJoining.emit s1.joiningEvents
  else { s1 with member.listenRun := 1 }

/-- The join run of a JOINING station's sending close (R93, item 2). -/
def State.nextJoinRun (s : State) (adopted : Bool) : Nat :=
  if adopted then 0
  else if s.heardBy s.presentFrames then s.member.joinRun + 1
  else if s.admittedFrames.isEmpty then s.member.joinRun + 1
  else 0

/-- JOINING at step 3, at a sending close (R93). -/
def State.testJoining (s : State) (adopted : Bool) : State :=
  let run := s.nextJoinRun adopted
  let count := s.member.joinEpochs + 1
  let s1 := { s with member.joinRun := run, member.joinEpochs := count }
  if run ≥ 3 then s1.enterActive.emit [evStationState s.timer.epoch .active]
  else if count ≥ 16 then
    s1.fallToListen.emit [evPlain .joinFailed s.timer.epoch, evStationState s.timer.epoch .listen]
  else s1

/-- ACTIVE at step 3, at a sending close without adoption (R94). -/
def State.testActive (s : State) : State :=
  let frames := s.presentFrames
  if frames.isEmpty then s
  else if s.heardBy frames then { s with member.unheardRun := 0 }
  else if s.member.unheardRun + 1 ≥ 4 then
    ((s.setFault .txUnheard).fallToListen).emit
      (faultEvents s.faults s.timer.epoch .txUnheard ++ [evStationState s.timer.epoch .listen])
  else { s with member.unheardRun := s.member.unheardRun + 1 }

/-- Step 3 of admission (R81), for a station whose self state was `before` when the close was raised. -/
def State.testSelf (s : State) (before : SelfState) (sent adopted : Bool) : State :=
  match s.member.selfState with
  | .listen => s.testListen adopted
  | .joining => if before = .joining ∧ sent then s.testJoining adopted else s
  | .active => if sent then s.testActive else s
  | .leaving | .withdrawn | .lockout => s

/-! ## Step 4: the bind claims (R101) -/

/-- A peer's bind claim and its answer. -/
def State.claimPeer (s : State) (k : Station) : State :=
  let p := s.member.peer k
  let (rows, answer, evs) := bindRows s.timer.epoch s.engine.rows k p.axis p.refused
  let p' := match answer with
    | .bound => { p with bound := true, refused := false }
    | .already => { p with bound := true }
    | .refused => { p with bound := false, refused := true }
  { s with engine.rows := rows, member := s.member.setPeer k p' }.emit evs

/-- The own bind claim and its answer. -/
def State.claimOwn (s : State) : State :=
  let (rows, answer, evs) :=
    bindRows s.timer.epoch s.engine.rows s.member.ownStation s.member.ownAxis s.member.ownRefused
  let m := match answer with
    | .bound => { s.member with ownBound := true, ownRefused := false }
    | .already => { s.member with ownBound := true }
    | .refused => { s.member with ownBound := false, ownRefused := true }
  { s with engine.rows := rows, member := m }.emit evs

/-- The claim of one station number, the own station taking its place in the order. -/
def State.claim (s : State) (k : Station) : State :=
  if k = s.member.ownStation then
    (if s.member.selfState.member ∧ s.member.ownBound = false then s.claimOwn else s)
  else
    let p := s.member.peer k
    if p.state.counted ∧ p.bound = false then s.claimPeer k else s

/-- Step 4 of admission. -/
def State.claims (s : State) : State := allStations.foldl State.claim s

/-! ## Step 5: the Admission List (R102) -/

/-- Whether the frame of a peer gives a usable sample (R7). -/
def FrameRecord.usable (f : FrameRecord) : Bool :=
  f.state == .active && !f.flags.test && !f.flags.settling && !f.flags.sensorFault

/-- The own entry of the list, for a station whose self state was `before` when the close was raised. -/
def State.ownEntry (s : State) (before : SelfState) : AdmittedSample where
  station := s.member.ownStation
  axis := s.member.ownAxis
  angle := s.sensor.sample.angle
  velocity := s.sensor.sample.velocity
  usable := before == .active && s.member.selfState == .active && !s.sensor.underTest
    && !s.sensor.sample.settling && !s.sensor.sample.sensorFault

/-- The Admission List, in ascending station number with the own entry in its place (R102). -/
def State.admissionList (s : State) (before : SelfState) : List AdmittedSample :=
  allStations.flatMap fun k =>
    ((s.admitted k).map fun f => (⟨k, f.axis, f.angle, f.velocity, f.usable⟩ : AdmittedSample)).toList
      ++ (if s.member.selfState.member ∧ k = s.member.ownStation then [s.ownEntry before] else [])

/-- The self states in which votes begin and publications are taken: steps 4 and 5 are taken unless step 3 left LISTEN or
LOCKOUT (R81), and no publication is made in those two (R137, R162). -/
def SelfState.votes : SelfState → Bool
  | .joining | .active | .leaving | .withdrawn => true
  | .listen | .lockout => false

/-- Admission (R81). -/
def State.admission (s : State) (sent : Bool) : State :=
  let before := s.member.selfState
  let adopted := s.adoption sent
  let s3 := ((s.adopt adopted).updatePeers).testSelf before sent adopted.isSome
  if s3.member.selfState.votes then s3.claims.deliver (s3.claims.admissionList before) else s3

end Sys2Proof.Machine
end

