-- ==== Sys2Proof/Machine/Timing.lean ====
section
/-! DEFINITION. The steps of the Epoch Timer (Chapter 3) and of reset and RESTART at every block: RESET, RESTART, MARK_RECOGNISED,
MARK_DEADLINE, LISTEN_TIMEOUT, MARK_DRIVE_RELEASE. -/

namespace Sys2Proof.Machine

/-! ## Reset (R79 and the reset columns of every chapter) -/

/-- The state after a reset with these straps and this CSN level at the release: the values of
`State.reset` with the straps in place. A station number at or above N is in LOCKOUT with STRAP_RANGE held
and FLT asserted; STATION_STATE is the first event (R79, R131, R148). -/
def State.atReset (s : State) (straps : Straps) (csnLow : Bool) : State :=
  let outOfRange := decide ((planTable straps.pl).n ≤ straps.st.toNat)
  let entered : SelfState := if outOfRange then .lockout else .listen
  let r := State.reset
  { r with
    timer.plan := straps.pl
    member.selfState := entered
    member.ownStation := straps.st
    member.ownAxis := straps.ax
    sensor.dw := straps.dw
    emulator.res := straps.res
    faults := if outOfRange then r.faults.set .strapRange else r.faults
    port.csnLow := csnLow
    port.events := evStationState 0 entered :: (if outOfRange then [evFaultHeld 0 .strapRange] else [])
    clock := s.clock
    freeCount := s.freeCount
    pending := s.pending }

/-- RESET (R79): power-on or a low level on RESETN, then its release. -/
def execReset (straps : Straps) (csnLow : Bool) (s : State) : Host.Outcome State Fault Refusal :=
  .next (s.atReset straps csnLow)

/-! ## A recognised mark (R45, R46) -/

/-- Whether the dominant stretch that is on the line has given its mark: the station drives on in a stretch that is
recognised, or no second stretch can have reached 12 bit times yet, since it begins after the last recognition
and so is recognised more than 24 bit times after the last origin (R45; the bound is log 35's). -/
def State.stretchTaken (s : State) : Bool :=
  s.line.markDrive == .recognised ||
    match s.timer.origin with
    | some o => decide (s.clock < o + 2 * recognitionTime)
    | none => false

/-- The Notice Queue with the entry of a completed frame taken (R108): it leaves, or stays with the
argument that replaced the one sent. -/
def takeCompleted (q : List NoticeEntry) : List NoticeEntry :=
  q.filterMap fun e =>
    if e.inFlight then
      (if e.replaced then some { e with rounds := 0, inFlight := false, replaced := false } else none)
    else some e

/-- Whether that takes a LEAVE from the queue (R108). -/
def leaveTaken (q : List NoticeEntry) : Bool :=
  q.any fun e => e.inFlight && !e.replaced && e.kind == .leave

/-- The Notice Queue with the in-flight flags cleared: the notice counts as not sent (R107, R108). -/
def dropFlight (q : List NoticeEntry) : List NoticeEntry :=
  q.map fun e => { e with inFlight := false, replaced := false }

/-- Whether a mark at this position ends an epoch that reached no close (R74). -/
def SchedulePos.noClose : SchedulePos → Bool
  | .none | .mark | .slot _ => true
  | .gap | .round _ | .idle => false

/-- The Line Controller at a recognised mark: the own frame ends and the outcome is NONE for the new
epoch (R60, R64), an awaited judgement is none (R65), the Epoch Buffer is emptied (R61), the heard set is
emptied if the epoch had no close (R74), a round in progress is void (R55, R108), and a drive goes on as
recognised (R47). -/
def LineController.atMark (l : LineController) (noClose : Bool) : LineController :=
  { l with
    buffer := List.replicate 16 .empty
    outcome := .none
    sentLate := false
    sending := none
    awaiting := false
    receiver := .off
    heard := if noClose then 0 else l.heard
    notices := if l.noticeSend = .completed then takeCompleted l.notices else dropFlight l.notices
    noticeSend := .idle
    markDrive := if l.markDrive.isDriving then .recognised else l.markDrive }

/-- Whether the mark takes a completed LEAVE, which completes the withdrawal (R97, R108). -/
def State.markTakesLeave (s : State) : Bool :=
  s.line.noticeSend == .completed && leaveTaken s.line.notices && s.member.selfState == .leaving

/-- Whether the mark is the station's own cold start (R50). -/
def State.coldStarts (s : State) : Bool :=
  s.line.markDrive.isColdStart && s.member.selfState == .listen

/-- The epoch number a mark gives (R57). -/
def State.markEpoch (s : State) : Epoch := if s.coldStarts then 0 else s.timer.epoch + 1

/-- The measured epoch length a mark gives (R58). -/
def State.markLength (s : State) : BitVec 16 :=
  match s.timer.origin with
  | none => 0
  | some o => BitVec.ofNat 16 (min 65535 (s.clock - recognitionTime - o).toNat)

/-- The Line Controller and the Epoch Timer at a recognised mark (R46, R52, R57, R58). In LOCKOUT no mark is driven and
the self-marked flag is clear (R52). -/
def State.markLineAndTimer (s : State) (drove : Bool) : State :=
  let noClose := s.timer.position.noClose || s.member.selfState == SelfState.lockout
  let s1 := { s with
    line := s.line.atMark noClose
    timer := { s.timer with
      epoch := s.markEpoch
      markSeen := true
      origin := some (s.clock - recognitionTime)
      position := if s.member.selfState = SelfState.lockout then .none else .mark
      roundOpen := false
      listenTimer := 0
      epochLength := s.markLength
      selfMarked := (drove || s.line.markDrive.isDriving) && s.member.selfState != SelfState.lockout } }
  let s2 := if s.markTakesLeave then s1.enterWithdrawn else s1
  if s2.member.selfState.sends then s2.armDeadline else s2

/-- EPOCH_CUT, carrying the cut epoch, at a mark during a slot (R54). -/
def State.cutEvents (s : State) : List EventRecord :=
  match s.timer.position with
  | .slot _ => [evPlain .epochCut s.timer.epoch]
  | .none | .mark | .gap | .round _ | .idle => []

/-- STATION_STATE of a LEAVE taken at the mark, with the next free choice's number. R108 takes the entry
"at the recognition of the mark", and no rule says whether the number current then is the old or the
new one (log 6). -/
def State.withdrawnAtMark (s : State) : List EventRecord × Nat :=
  if s.markTakesLeave then
    ([evStationState (if Config.freeChoice s.freeCount then s.timer.epoch else s.markEpoch) .withdrawn],
      s.freeCount + 1)
  else ([], s.freeCount)

/-- Steps 1 to 7 of R119 at the Sensor Interface. -/
def State.markSensor (s : State) (m : MarkInputs) : State :=
  { s with sensor := s.sensor.mark m s.tests.injected s.tests.samplesUnderTest }

/-- Whether the order of the FAULT posting of step 8 and the TEST posting of a MONITOR end is open at
this mark (log 7). INJECT is decided at step 5, before step 8 (R165), and PULSE posts no TEST. -/
def State.postOrderOpen (s : State) (m : MarkInputs) : Bool :=
  s.tests.runs .monitor && (s.testOutcomeAt m).isSome && !s.newSensorKinds.isEmpty
    && s.member.selfState == .active

/-- The test step (R165, R166, R168) and step 8 of R119, in the order the free choice gives where it is open. -/
def State.markTestAndFaults (s : State) (m : MarkInputs) : State :=
  if s.postOrderOpen m then
    let s' := { s with freeCount := s.freeCount + 1 }
    if Config.freeChoice s.freeCount then (s'.testAtMark m).holdSensorFaults
    else (s'.holdSensorFaults).testAtMark m
  else (s.testAtMark m).holdSensorFaults

/-- A recognised mark at every block (R46, R54, R55, R119). The records of the Epoch Timer, the
Membership Unit, the Fault Register and the Self-Test Unit enter together (R145, log 5). Three orders that no rule
gives are the model's choice: a test in progress takes its step of the mark before the entry to JOINING of a
cold start aborts it (R92, R170; log 31); a completed in-flight entry is taken from the Notice Queue before the mark
posts FAULT or TEST, so an entry posted by the mark stands at the end (R108, R132, R169; log 32); and the records of
the sensor faults and of the test carry the epoch number after the advance (R128, R129, R169; log 33). -/
def State.mark (s : State) (m : MarkInputs) : State :=
  let (withdrawn, free) := s.withdrawnAtMark
  let s1 := ({ s with freeCount := free }.markLineAndTimer m.drove).markSensor m
  let s2 := s1.markTestAndFaults m
  let s3 := if s.coldStarts then s2.enterJoining else s2
  s3.emitTogether [s.cutEvents, withdrawn, s1.sensorFaultEvents, s1.testEventsAt m,
    if s.coldStarts then s2.joiningEvents else []]

/-- MARK_RECOGNISED (R45, R46): once for each unbroken dominant stretch. A stretch that has given its mark gives no
other. -/
def execMarkRecognised (m : MarkInputs) (s : State) : Host.Outcome State Fault Refusal :=
  .next (if s.stretchTaken then s else s.mark m)

/-! ## Driving a mark -/

/-- Whether the mark deadline is armed and has fallen due (R47, R48). -/
def State.deadlineDue (s : State) : Bool :=
  match s.timer.deadline with
  | some d => decide (d ≤ s.clock)
  | none => false

/-- Whether the listen timeout has fallen due: in LISTEN, at the listen timer's reaching it (R50). -/
def State.timeoutDue (s : State) : Bool :=
  s.member.selfState == .listen && decide (s.listenTimeout ≤ s.timer.listenTimer)

/-- MARK_DEADLINE (R47): an armed deadline falls due and the station drives. A disarmed deadline causes no
drive (R48), nor does one that a mark taken first has re-armed (R56). -/
def execMarkDeadline (s : State) : Host.Outcome State Fault Refusal :=
  .next (if s.deadlineDue then { s with line := s.line.drive false s.clock } else s)

/-- LISTEN_TIMEOUT (R50): in LISTEN the station drives a mark as its cold start. The timeout is taken only
in LISTEN, and not where a mark taken first has restarted the listen timer (R56). -/
def execListenTimeout (s : State) : Host.Outcome State Fault Refusal :=
  .next (if s.timeoutDue then { s with line := s.line.drive true s.clock } else s)

/-- MARK_DRIVE_RELEASE (R47): the driver of a recognised mark releases the line. -/
def execMarkDriveRelease (s : State) : Host.Outcome State Fault Refusal :=
  .next (if s.line.markDrive = .recognised then { s with line.markDrive := .idle } else s)

/-! ## RESTART (R99) -/

/-- Whether the station number is out of the plan's range (R79). -/
def State.outOfRange (s : State) : Bool := decide (s.plan.n ≤ s.member.ownStation.toNat)

/-- The Line Controller after RESTART (Table 4-5, R115). -/
def LineController.restart (l : LineController) : LineController :=
  { l with
    buffer := List.replicate 16 .empty
    outcome := .none
    sentLate := false
    sending := none
    awaiting := false
    receiver := .off
    heard := 0
    counts := ⟨0, 0, 0, 0⟩
    markDrive := .idle
    notices := []
    noticeSend := .idle }

/-- The Epoch Timer after RESTART (Table 3-2, R59). -/
def EpochTimer.restart (t : EpochTimer) : EpochTimer :=
  { t with markSeen := false, position := .none, roundOpen := false, deadline := none, listenTimer := 0 }

/-- RESTART at every block (R99): each takes its RESTART values, a running test is aborted (R170), and the
station is in LISTEN, or in LOCKOUT where R79 requires it. STATION_STATE stands first after the history
before the RESTART (R152, log 15); the other blocks' records follow together (R145, log 5). -/
def State.restart (s : State) : State :=
  let entered : SelfState := if s.outOfRange then .lockout else .listen
  let s1 := s.abortTest .restart
  let s2 := { s1.clearTable with
    line := s.line.restart
    timer := s.timer.restart
    member := { s.member with
      selfState := entered
      listenRun := 0
      mismatchRun := 0
      joinRun := 0
      joinEpochs := 0
      unheardRun := 0
      ownBound := false
      ownRefused := false
      peers := List.replicate 16 PeerEntry.cleared }
    faults := if s.outOfRange then s.faults.set .strapRange else s.faults
    store := SnapshotStore.initial
    emulator := s.emulator.restart }
  (s2.emit [evStationState s.timer.epoch entered]).emitTogether
    [s.abortEvents .restart, emulatorEvents s.timer.epoch s.emulator.state .frozen,
      if s.outOfRange then faultEvents s.faults s.timer.epoch .strapRange else []]

end Sys2Proof.Machine
end

