-- ==== Sys2Proof/Machine/Slots.lean ====
section
/-! DEFINITION. The slot phase (Chapter 4): SLOT_BEGIN, OWN_FRAME_COMPLETE, COLLISION, COLLISION_JUDGEMENT, SYNC_FOUND, CODING_BROKEN,
FRAME_RECEIVED, SLOT_END and CLOSE. An event that the Epoch Timer does not raise at the present schedule position, or
that the Line Controller's state excludes, leaves the state as it is (log 1, log 3). -/

namespace Sys2Proof.Machine

/-! ## Slots -/

/-- The fields of the own sample frame as fixed at the begin of the own slot (Table 4-3). The TEST flag
is set when INJECT or MONITOR is in progress now or was at this epoch's mark. -/
def State.ownFrame (s : State) : FrameRecord where
  station := s.member.ownStation
  axis := s.member.ownAxis
  state := if s.member.selfState = .active then .active else .joining
  flags := ⟨s.sensor.underTest || s.tests.samplesUnderTest, s.sensor.sample.settling,
    s.sensor.sample.sensorFault⟩
  epoch := s.timer.epoch
  angle := s.sensor.sample.angle
  velocity := s.sensor.sample.velocity
  heard := s.line.heard

/-- Whether the begin of slot k is raised now: the schedule is drawn, slot k is scheduled, its time has come, and the
position has not passed it (R51, R52). -/
def State.slotDue (s : State) (k : Station) : Bool :=
  s.drawn && s.reached (slotTime k.toNat) && decide (k.toNat < s.plan.n) && s.timer.position.beforeClose
    && decide (s.timer.position.rank < (SchedulePos.slot k).rank)

/-- Whether the station starts its own sample frame at the begin of slot k (R62). -/
def State.startsOwnFrame (s : State) (k : Station) : Bool :=
  k == s.member.ownStation && s.member.selfState.member && s.line.outcome == .none

/-- The begin of slot k (R62, R63, R67). -/
def State.slotBegin (s : State) (k : Station) : State :=
  let s1 := { s with timer.position := .slot k }
  let s2 := if k = s.member.ownStation
    then { s1 with sensor.underTest := s.sensor.underTest || s.tests.samplesUnderTest } else s1
  if s.startsOwnFrame k then
    { s2 with
      line.outcome := .sending
      line.sending := some ⟨sampleFrame s.timer.plan s.ownFrame, s.clock⟩
      line.receiver := .off }
  else { s2 with line.receiver := .searching }

/-- SLOT_BEGIN (R62): the receiver searches, or in the own slot a JOINING or ACTIVE station fixes and
starts its own sample frame. -/
def execSlotBegin (k : Station) (s : State) : Host.Outcome State Fault Refusal :=
  .next (if s.slotDue k then s.slotBegin k else s)

/-- OWN_FRAME_COMPLETE (R64): the 102nd bit time is driven, in LEAVING too when the state changed during the send (R96). -/
def execOwnFrameComplete (s : State) : Host.Outcome State Fault Refusal :=
  .next (if s.line.outcome = .sending then 
    { s with
      line.outcome := .sent
      line.sentLate := s.member.selfState == SelfState.leaving
      line.sending := none } else s)

/-- COLLISION (R65): the station stops driving, and the collision awaits its judgement. -/
def execCollision (s : State) : Host.Outcome State Fault Refusal :=
  .next (if s.line.outcome = .sending then
    { s with line.outcome := .stopped, line.sending := none, line.awaiting := true } else s)

/-- COLLISION_JUDGEMENT (R65, R66): the stretch ended before 12 bit times, and the collision is DUPLICATE_ID. -/
def execCollisionJudgement (s : State) : Host.Outcome State Fault Refusal :=
  .next (if s.line.awaiting then { s with line.awaiting := false }.raiseDuplicateId else s)

/-! ## Receiving -/

/-- Whether the schedule position is a slot, or a round in progress, in a drawn schedule (R67, R111). -/
def State.receiving (s : State) : Bool :=
  s.drawn && match s.timer.position with
    | .slot _ => true
    | .round _ => s.timer.roundOpen
    | .none | .mark | .gap | .idle => false

/-- SYNC_FOUND (R67, R111): a searching receiver finds the sync pattern its schedule position admits. -/
def execSyncFound (s : State) : Host.Outcome State Fault Refusal :=
  .next (if s.receiving ∧ s.line.receiver = .searching then { s with line.receiver := .receiving } else s)

/-- The receiver after a broken coding: in a slot it searches on, in a round it takes nothing more (R67, R111). -/
def SchedulePos.afterBroken : SchedulePos → Receiver
  | .slot _ => .searching
  | .round _ => .settled
  | .none | .mark | .gap | .idle => .off

/-- CODING_BROKEN (R67, R111): the frame being received is abandoned. -/
def execCodingBroken (s : State) : Host.Outcome State Fault Refusal :=
  .next (if s.receiving ∧ s.line.receiver = .receiving then
    { s with line.receiver := s.timer.position.afterBroken } else s)

/-- The first check a received sample frame fails in slot k (Table 4-4). -/
def State.frameFault (s : State) (k : Station) (frame : BitVec 102) : Option InvalidReason :=
  if sampleCheckOk frame = false then some .badCheck
  else if samplePlan frame ≠ s.timer.plan then some .plan
  else if (sampleRecord frame).station ≠ k then some .slot
  else if (sampleRecord frame).station = s.member.ownStation then
    some (if s.member.selfState = .listen then .duplicateId else .own)
  else none

/-- The record a complete frame takes in slot k (R68, R69). -/
def State.frameToRecord (s : State) (k : Station) (frame : BitVec 102) : SlotRecord :=
  match s.frameFault k frame with
  | some reason => .invalid reason
  | none => .valid (sampleRecord frame)

/-- A complete frame taken in slot k: the record takes its form and the receiver settles (R67, R68). A
frame under the own number in LISTEN raises DUPLICATE_ID (R70). -/
def State.takeFrame (s : State) (k : Station) (frame : BitVec 102) : State :=
  let s1 := { s with
    line.buffer := s.line.buffer.set k.toNat (s.frameToRecord k frame)
    line.receiver := .settled }
  if s.frameFault k frame = some .duplicateId then s1.raiseDuplicateId else s1

/-- FRAME_RECEIVED (R67, R68): a complete sample frame, whose sync the receiver found in this slot, is taken and
validated. A receiver that is not RECEIVING holds no frame, so a frame that began in an earlier slot is not taken. -/
def execFrameReceived (frame : BitVec 102) (s : State) : Host.Outcome State Fault Refusal :=
  .next (match s.timer.position with
    | .slot k => if s.drawn ∧ s.line.receiver = .receiving ∧ sampleSyncOk frame then s.takeFrame k frame else s
    | .none | .mark | .gap | .round _ | .idle => s)

/-- SLOT_END (R67), at the slot's end: a receiver still searching or receiving abandons what it holds. -/
def execSlotEnd (k : Station) (s : State) : Host.Outcome State Fault Refusal :=
  .next (if s.drawn ∧ s.timer.position = .slot k ∧ s.reached (slotTime (k.toNat + 1)) then
    { s with line.receiver := .off } else s)

/-! ## Close -/

/-- How many records of the buffer are invalid with a reason (R75). -/
def countReason (buffer : List SlotRecord) (reason : InvalidReason) : Nat := buffer.count (.invalid reason)

/-- The invalid counts of a buffer (R75). -/
def countInvalid (buffer : List SlotRecord) : InvalidCounts :=
  ⟨countReason buffer .badCheck, countReason buffer .plan, countReason buffer .slot, countReason buffer .own⟩

/-- The stations whose records are valid (R73, R74). -/
def LineController.validStations (l : LineController) : StationSet :=
  stationSet (allStations.filter fun k => (l.record k).frame?.isSome)

/-- The Line Controller at a close: the receiver ends the last slot, the heard set is latched and the
invalid counts are rewritten (R71). -/
def LineController.close (l : LineController) : LineController :=
  { l with receiver := .off, heard := l.validStations, counts := countInvalid l.buffer }

/-- Whether the own frame of the epoch was completed after a change to LEAVING in the same epoch. -/
def State.sentAfterLeaving (s : State) : Bool :=
  s.line.outcome == TxOutcome.sent && s.member.selfState == SelfState.leaving && s.line.sentLate

/-- Whether the transmit outcome handed over at a close is SENT (R71, R72): never in LISTEN and WITHDRAWN. For a frame that
was being sent when WITHDRAW was taken and completed in LEAVING, R71 and the text under R96 give SENT and R72 gives NONE:
the model leaves the outcome free (DESIGN CHOICE, log 37). -/
def State.handsSent (s : State) : Bool :=
  s.line.outcome == TxOutcome.sent && s.member.selfState.sends &&
    (!s.sentAfterLeaving || Config.freeChoice s.freeCount)

/-- CLOSE (R71, R81), at the end of the slot phase: the buffer and the transmit outcome are handed to the Membership Unit,
and admission is taken. An epoch that a mark has cut reaches no close (R54). The outcome handed over for a frame completed
after a change to LEAVING is free (log 37). -/
def execClose (s : State) : Host.Outcome State Fault Refusal :=
  .next (if s.drawn ∧ s.timer.position.beforeClose ∧ s.reached (closeTime s.plan.n) then
    { s with
      timer.position := .gap
      line := s.line.close
      freeCount := if s.sentAfterLeaving then s.freeCount + 1 else s.freeCount }.admission s.handsSent else s)

end Sys2Proof.Machine
end

