-- ==== Sys2Proof/Machine/Rounds.lean ====
section
/-! DEFINITION. The open window (Chapter 6): ROUND_BEGIN, NOTICE_COLLISION, NOTICE_FRAME_COMPLETE, ROUND_END and
NOTICE_RECEIVED. -/

namespace Sys2Proof.Machine

/-! ## Contention -/

/-- The entry with the lowest kind code (R106). -/
def offered (q : List NoticeEntry) : Option NoticeEntry :=
  [NoticeKind.leave, .fault, .test, .user].findSome? fun k => q.find? fun e => e.kind == k

/-- The notice frame of an entry, as fixed at the round's begin (R106). -/
def State.noticeFor (s : State) (e : NoticeEntry) : NoticeFields where
  kind := e.kind
  station := s.member.ownStation
  plan := s.timer.plan
  argument := e.argument
  epochLow := epochLow s.timer.epoch

/-- The queue with the in-flight flag of one kind's entry set (R106). -/
def markFlight (q : List NoticeEntry) (kind : NoticeKind) : List NoticeEntry :=
  q.map fun e => if e.kind = kind then { e with inFlight := true } else e

/-- Whether the begin of round j is raised now: the schedule is drawn, the round's time has come, the epoch has reached
its close and not this round, and no round is in progress (R51, R52). -/
def State.roundDue (s : State) (j : RoundNumber) : Bool :=
  s.drawn && s.reached (roundTime s.plan.n j.toNat) && !s.timer.roundOpen && decide (SchedulePos.gap.rank ≤ s.timer.position.rank)
    && decide (s.timer.position.rank < (SchedulePos.round j).rank)

/-- The begin of round j (R106, R111). -/
def State.roundBegin (s : State) (j : RoundNumber) : State :=
  let s1 := { s with timer.position := .round j, timer.roundOpen := true, line.receiver := .searching }
  match offered s.line.notices with
  | some e =>
    if s.member.selfState.sends then
      { s1 with
        line.notices := markFlight s.line.notices e.kind
        line.noticeSend := .sending (noticeFrame (s.noticeFor e)) s.clock }
    else { s1 with line.noticeSend := .idle }
  | none => { s1 with line.noticeSend := .idle }

/-- ROUND_BEGIN (R106). -/
def execRoundBegin (j : RoundNumber) (s : State) : Host.Outcome State Fault Refusal :=
  .next (if s.roundDue j then s.roundBegin j else s)

/-- Whether the own notice frame is being sent. -/
def NoticeSend.isSending : NoticeSend → Bool
  | .sending _ _ => true
  | .idle | .completed | .lost => false

/-- NOTICE_COLLISION (R107): the line is released for the rest of the round, the entry's flags are cleared
and the round is lost. -/
def execNoticeCollision (s : State) : Host.Outcome State Fault Refusal :=
  .next (if s.line.noticeSend.isSending then
    { s with line.notices := dropFlight s.line.notices, line.noticeSend := .lost } else s)

/-- NOTICE_FRAME_COMPLETE (R108): the 49th bit time is driven without a collision. A station that
completes its own frame does not take it as a receipt (R111). -/
def execNoticeFrameComplete (s : State) : Host.Outcome State Fault Refusal :=
  .next (if s.line.noticeSend.isSending then
    { s with line.noticeSend := .completed, line.receiver := .settled } else s)

/-! ## Round end -/

/-- The rounds an entry waits at most (R109). -/
def expiryRounds : Nat := 32

/-- An entry aged at a round end: every entry that was not completed in the round (R109). -/
def NoticeEntry.age (completed : Bool) (e : NoticeEntry) : NoticeEntry :=
  if completed && e.inFlight then e else { e with rounds := e.rounds + 1 }

/-- The queue with the round's ageing and taking done, before the drops: ageing in a sending state, then the
completed entry is taken; a frame that was not completed counts as not sent (R108, R109). -/
def roundQueue (sends completed : Bool) (q : List NoticeEntry) : List NoticeEntry :=
  let aged := if sends then q.map (NoticeEntry.age completed) else q
  if completed then takeCompleted aged else dropFlight aged

/-- The kinds that expire, in ascending kind code (R109). -/
def expiredKinds (q : List NoticeEntry) : List NoticeKind :=
  [NoticeKind.leave, .fault, .test, .user].filter fun k => q.any fun e => e.kind == k && decide (expiryRounds ≤ e.rounds)

/-- The entries that remain (R109). -/
def dropExpired (q : List NoticeEntry) : List NoticeEntry := q.filter fun e => decide (e.rounds < expiryRounds)

/-- The records of the expiries: NOTICE_EXPIRED of each kind, STATION_STATE following that of a LEAVE which
completes the withdrawal (R109, log 16). -/
def expiryEvents (e : Epoch) (withdraws : Bool) (ks : List NoticeKind) : List EventRecord :=
  ks.flatMap fun k =>
    evNoticeExpired e k :: (if withdraws && k == .leave then [evStationState e .withdrawn] else [])

/-- The end of a round: ageing, the taking of the completed entry, the drops (R108, R109; log 16). -/
def State.roundEnd (s : State) (j : RoundNumber) : State :=
  let completed := s.line.noticeSend == .completed
  let leaving := s.member.selfState == .leaving
  let q := roundQueue s.member.selfState.sends completed s.line.notices
  let sent := completed && leaveTaken s.line.notices && leaving
  let expired := expiredKinds q
  let expires := leaving && !sent && expired.contains .leave
  let s1 := { s with
    timer.position := if j = 3 then .idle else .round j
    timer.roundOpen := false
    line.receiver := .off
    line.noticeSend := .idle
    line.notices := dropExpired q }
  let s2 := if sent || expires then s1.enterWithdrawn else s1
  s2.emit ((if sent then [evStationState s.timer.epoch .withdrawn] else [])
    ++ expiryEvents s.timer.epoch expires expired)

/-- ROUND_END (R109), at the end of the round in progress. -/
def execRoundEnd (j : RoundNumber) (s : State) : Host.Outcome State Fault Refusal :=
  .next (if s.drawn ∧ s.timer.roundOpen ∧ s.timer.position = .round j ∧ s.reached (roundTime s.plan.n (j.toNat + 1))
    then s.roundEnd j else s)

/-! ## Receiving notices -/

/-- Whether a complete notice frame passes the checks of Table 6-3. -/
def State.noticePasses (s : State) (frame : BitVec 49) : Bool :=
  let f := noticeFields frame
  noticeCheckOk frame && f.plan == s.timer.plan && f.epochLow == epochLow s.timer.epoch
    && decide (f.station.toNat < s.plan.n)

/-- A taken LEAVE (R88): the entry becomes ABSENT, PEER_LEFT is appended, and a bound source is unbound. An
ABSENT entry is left as it is. -/
def State.takeLeave (s : State) (k : Station) : State :=
  let p := s.member.peer k
  if p.state = .absent then s
  else
    let s1 := { s with member := s.member.setPeer k p.lose }.emit [evStation .peerLeft s.timer.epoch k]
    if p.bound then s1.unbindPeer k else s1

/-- The effect of a taken notice from another station (Table 6-4). -/
def State.takeNotice (s : State) (f : NoticeFields) : State :=
  let k := f.station
  let p := s.member.peer k
  match f.kind with
  | .leave => s.takeLeave k
  | .fault =>
    { s with member := s.member.setPeer k { p with reported := reportedOf f.argument } }.emit
      [evNotice .noticeFault s.timer.epoch k f.argument]
  | .test =>
    { s with member := s.member.setPeer k { p with testReport := some (testReportOf f.argument) } }.emit
      [evNotice .noticeTest s.timer.epoch k f.argument]
  | .user => s.emit [evNotice .noticeUser s.timer.epoch k f.argument]

/-- A complete notice frame: judged by Table 6-3, then by its station (R112 to R114). -/
def State.receiveNotice (s : State) (frame : BitVec 49) : State :=
  let s1 := { s with line.receiver := .settled }
  if s.noticePasses frame then
    (if (noticeFields frame).station = s.member.ownStation then s1.raiseDuplicateId
      else s1.takeNotice (noticeFields frame))
  else s1

/-- NOTICE_RECEIVED (R111, R112): a complete notice frame, whose sync the receiver found in this round, is judged. While
the station's own frame is still being sent the frame on the line is its own, which is no receipt (R111, log 30). -/
def execNoticeReceived (frame : BitVec 49) (s : State) : Host.Outcome State Fault Refusal :=
  .next (if s.drawn ∧ s.timer.roundOpen ∧ s.line.receiver = .receiving ∧ s.line.noticeSend.isSending = false
      ∧ noticeSyncOk frame then s.receiveNotice frame else s)

end Sys2Proof.Machine
end

