-- ==== Sys2Proof/Machine/Completion.lean ====
section
/-! DEFINITION. The vote's completion and the timed outputs: VOTE_COMPLETION (R41), EPS_PULSE_END (R137), EMISSION_EDGE (R157). -/

namespace Sys2Proof.Machine

/-- The vote's rows after stages 1 to 5 (R20). -/
def VoteInFlight.voted (v : VoteInFlight) (plan : Plan) : List Row := v.rows.map fun r => (r.vote plan v.epoch).1

/-- The end of the VOTE test at the completion of the vote it runs in (R167, R169). -/
def State.endVoteTest (s : State) : State :=
  let o := voteTestOutcome s.plan
  (s.endTest .vote o).emit (s.endTestEvents .vote o)

/-- Vote completion (R41): publication, write-back, the vote's events in the order of R21, no vote in
flight; and the end of a VOTE test that runs in this vote. The vote completes in every self state (R19, R22), and the
publication is taken in JOINING, ACTIVE, LEAVING and WITHDRAWN alone: in LISTEN and LOCKOUT the Snapshot Store and the
Pulse Emulator stay as they are (R137, R162). How the two go together at a vote that was in flight at an entry to
LOCKOUT is the model's choice (log 36). -/
def State.completeVote (s : State) (v : VoteInFlight) : State :=
  let voted := v.voted s.plan
  let table := writeBackRows s.engine.rows voted
  let published := if s.member.selfState.votes then s.publish voted v.epoch else s
  let s1 := { published with engine := { rows := table, vote := none } }
  let s2 := s1.emit (voteEventsFrom s.timer.epoch s.plan v.epoch 0 v.rows
    ++ rowStateEventsFrom s.timer.epoch 0 s.engine.rows table)
  if v.testRuns ∧ s.tests.runs .vote then s2.endVoteTest else s2

/-- VOTE_COMPLETION (R41). With no vote in flight there is nothing to complete. -/
def execVoteCompletion (s : State) : Host.Outcome State Fault Refusal :=
  .next (match s.engine.vote with
    | some v => s.completeVote v
    | none => s)

/-- EPS_PULSE_END (R137): EPS returns low. -/
def execEpsPulseEnd (s : State) : Host.Outcome State Fault Refusal := .next { s with store.eps := none }

/-- EMISSION_EDGE (R157, R158): one edge of the emission in flight, not before its instant. An edge of an emission
that a publication has stopped moves nothing. -/
def execEmissionEdge (s : State) : Host.Outcome State Fault Refusal :=
  .next (match s.emulator.emission with
    | some em => if em.nextEdge s.plan.period ≤ s.clock then { s with emulator := s.emulator.edge em } else s
    | none => s)

end Sys2Proof.Machine
end

