-- ==== Sys2Proof/Machine/Port.lean ====
section
/-! DEFINITION. The local port (Chapter 8) and its commands: CSN_FALL, CSN_RISE, COMMAND_BYTE, BAD_COMMAND, READ_STATUS, READ_EVENTS,
EVENT_RECORD_DELIVERED, PIN, UNPIN, READ_PAGE, READ_PEERS, CLEAR_FAULTS, WITHDRAW, REJOIN, RESTART, START_TEST, CLEAR_RESULT and POST_NOTICE. A
command that its transaction cannot bring now leaves the state as it is (R148, log 1, log 18). -/

namespace Sys2Proof.Machine

/-! ## Transactions (R148) -/

/-- The row of the opcode table that a byte completed on SDI brings in the present transaction (Table 8-6): in COMMAND
the row its value names, in ARGUMENTS the command with the byte for its argument; in the other states the byte is
ignored. -/
def LocalPort.brings (p : LocalPort) (b : Byte) : Option Instr :=
  match p.txn with
  | .command => some (commandByteRow b)
  | .arguments c => some (c.toInstr b)
  | .closed | .response | .ignore => none

/-- The byte SDO shows once `shifted` bytes of the answer are shifted out, `none` while it is released (Table 8-6):
filler before the answer, then the answer, then filler (R149, R174). -/
def LocalPort.sdo (p : LocalPort) (shifted : Nat) : Option Byte :=
  match p.txn with
  | .closed => none
  | .command | .arguments _ => some fillerByte
  | .response | .ignore => some (p.response.getD shifted fillerByte)

/-- CSN_FALL (R148): a falling CSN opens a transaction in COMMAND. A CSN that is low already does not fall. -/
def execCsnFall (s : State) : Host.Outcome State Fault Refusal :=
  .next (if s.port.csnLow then s else
    { s with port.csnLow := true, port.txn := .command, port.response := [], port.toDeliver := 0 })

/-- CSN_RISE (R148): the transaction closes in any state, data not shifted out is lost, records not
delivered stay in the queue (R147), and a TRANSACTION pin is released (R141). -/
def execCsnRise (s : State) : Host.Outcome State Fault Refusal :=
  .next (if s.port.csnLow then
    { s with
      port.csnLow := false
      port.txn := .closed
      port.response := []
      port.toDeliver := 0
      store := s.store.releaseTransaction }
    else s)

/-- COMMAND_BYTE (R148): a byte that names a command with arguments moves COMMAND to ARGUMENTS. -/
def execCommandByte (byte : Byte) (s : State) : Host.Outcome State Fault Refusal :=
  .next (match LocalCommand.ofByte byte with
    | some c => if s.port.txn = .command ∧ c.hasArgument then { s with port.txn := .arguments c } else s
    | none => s)

/-- BAD_COMMAND (R149): a byte that names no command is answered BAD_COMMAND, and the rest of the
transaction is ignored. -/
def execBadCommand (byte : Byte) (s : State) : Host.Outcome State Fault Refusal :=
  .next (if s.port.txn = .command ∧ LocalCommand.ofByte byte = none then
    { s with port.txn := .ignore, port.response := [Status.badCommand.byte] } else s)

/-! ## Reads -/

/-- The test in progress in the status block: code, then step and marks remaining, which read 0 for VOTE
(Table 11-6, bytes 10 and 11). -/
def SelfTestUnit.runBytes (t : SelfTestUnit) : List Byte :=
  match t.running with
  | none => [0, 0]
  | some r =>
    [BitVec.ofNat 8 r.code.code, if r.code = .vote then 0 else BitVec.ofNat 8 (r.step + 16 * r.remaining)]

/-- The detail byte of a result (Table 11-6, byte 13). -/
def TestOutcome.detail : TestOutcome → Nat
  | .fail d => d
  | .aborted why => why.code
  | .running | .pass => 0

/-- The result record in the status block (Table 11-6, bytes 12 to 15). -/
def SelfTestUnit.resultBytes (t : SelfTestUnit) : List Byte :=
  match t.result with
  | none => [0, 0, 0, 0]
  | some r =>
    [BitVec.ofNat 8 (r.code.code + 8 * r.outcome.code), BitVec.ofNat 8 r.outcome.detail]
      ++ bytes16 (r.endingEpoch.getD 0)

/-- The pending kinds in posting order, the oldest in bits 7 to 6 (Table 11-6, byte 17). -/
def pendingKindsByte (q : List NoticeEntry) : Byte :=
  let place (i w : Nat) : Nat := ((q[i]?).map fun e => e.kind.code * w).getD 0
  BitVec.ofNat 8 (place 0 64 + place 1 16 + place 2 4 + place 3 1)

/-- The pin in the status block: bit 7 for a HELD pin with its page, then the pinned page's epoch
(Table 11-6, bytes 19 to 21). -/
def SnapshotStore.pinBytes (st : SnapshotStore) : List Byte :=
  match st.pin with
  | none => [0, 0, 0]
  | some p =>
    (match p.kind with
      | .held => BitVec.ofNat 8 (128 + p.page.val)
      | .transaction => 0) :: bytes16 (st.page p.page).epoch

/-- The status block: 31 bytes (Table 8-9, Table 11-6; bits no table assigns read 0, log 10). -/
def State.statusBlock (s : State) : List Byte :=
  [ BitVec.ofNat 8 (s.member.selfState.code + 16 * s.sensor.conv.code + 128 * s.timer.selfMarked.toNat),
    BitVec.ofNat 8 (s.member.ownStation.toNat + 16 * s.timer.plan.toNat),
    BitVec.ofNat 8 (s.member.ownAxis.toNat + 16 * s.emulator.state.code) ]
  ++ bytes16 s.timer.epoch
  ++ bytes16 s.timer.epochLength
  ++ [s.sensor.live.setWidth 8]
  ++ bytes16 (s.faults.held.setWidth 16)
  ++ s.tests.runBytes
  ++ s.tests.resultBytes
  ++ [BitVec.ofNat 8 s.line.notices.length, pendingKindsByte s.line.notices]
  ++ [BitVec.ofNat 8 (s.port.events.length + 128 * s.port.overflow.toNat)]
  ++ s.store.pinBytes
  ++ [BitVec.ofNat 8 s.line.counts.badCheck, BitVec.ofNat 8 s.line.counts.plan,
      BitVec.ofNat 8 s.line.counts.slot, BitVec.ofNat 8 s.line.counts.own]
  ++ bytes16 s.sensor.sample.angle
  ++ bytes16 s.sensor.sample.velocity
  ++ [BitVec.ofNat 8 (2 * s.sensor.sample.settling.toNat + 4 * s.sensor.sample.sensorFault.toNat)]

/-- READ_STATUS (R150): the status block is captured whole at the take. -/
def execReadStatus (s : State) : Host.Outcome State Fault Refusal :=
  .next (if s.takes .readStatus then s.answer .ok s.statusBlock else s)

/-- An event record: 7 bytes (Table 11-8). -/
def EventRecord.bytes (r : EventRecord) : List Byte :=
  [BitVec.ofNat 8 r.kind.code] ++ bytes16 r.epoch
    ++ [BitVec.ofNat 8 (r.station.isSome.toNat + 2 * r.axis.isSome.toNat + 4 * r.argument.isSome.toNat),
      (r.station.getD 0).setWidth 8, (r.axis.getD 0).setWidth 8, r.argument.getD 0]

/-- READ_EVENTS with a valid count (R147): n is fixed, and the byte with n and OVERFLOW and the n oldest
records are returned; with n of 0 OVERFLOW is cleared at the take. -/
def State.readEvents (s : State) (count : Nat) : State :=
  let n := min count s.port.events.length
  let s1 := s.answer .ok (BitVec.ofNat 8 (n + 128 * s.port.overflow.toNat) ::
    (s.port.events.take n).flatMap EventRecord.bytes)
  { s1 with port.toDeliver := n, port.overflow := s.port.overflow && n != 0 }

/-- READ_EVENTS (R147): a count of 0 or above 32 is answered BAD_ARGUMENT and removes nothing. -/
def execReadEvents (count : Byte) (s : State) : Host.Outcome State Fault Refusal :=
  .next (if s.takes .readEvents then
    (if 1 ≤ count.toNat ∧ count.toNat ≤ 32 then s.readEvents count.toNat else s.answer .badArgument []) else s)

/-- EVENT_RECORD_DELIVERED (R147): the delivered record leaves the queue, and OVERFLOW is cleared at the
last one if the queue is then empty. -/
def execEventRecordDelivered (s : State) : Host.Outcome State Fault Refusal :=
  .next (if s.port.txn = .response ∧ 0 < s.port.toDeliver then
    { s with
      port.events := s.port.events.tail
      port.toDeliver := s.port.toDeliver - 1
      port.overflow := s.port.overflow && !(s.port.toDeliver == 1 && s.port.events.tail.isEmpty) } else s)

/-- PIN at the Snapshot Store (R139). -/
def State.pinFront (s : State) : State :=
  match s.store.front with
  | none => s.answer .noPage []
  | some p =>
    { s with store.pin := some ⟨p, .held⟩ }.answer .ok
      (BitVec.ofNat 8 p.val :: bytes16 (s.store.page p).epoch)

/-- PIN (R139). -/
def execPin (s : State) : Host.Outcome State Fault Refusal := .next (if s.takes .pin then s.pinFront else s)

/-- UNPIN (R140): the pin is set to none; the released page keeps its role and its place. -/
def execUnpin (s : State) : Host.Outcome State Fault Refusal :=
  .next (if s.takes .unpin then { s with store.pin := none }.answer .ok [] else s)

/-- READ_PAGE at the Snapshot Store (R141). -/
def State.readPage (s : State) : State :=
  match s.store.pin, s.store.front with
  | some p, _ => s.answer .ok (s.store.page p.page).bytes
  | none, some p => { s with store.pin := some ⟨p, .transaction⟩ }.answer .ok (s.store.page p).bytes
  | none, none => s.answer .noPage noPageBytes

/-- READ_PAGE (R141). -/
def execReadPage (s : State) : Host.Outcome State Fault Refusal :=
  .next (if s.takes .readPage then s.readPage else s)

/-- The test report byte of a peer entry, without the flags: code in bits 5 to 3, outcome in bits 7 to 6,
0 for phase START (Table 11-9; log 21). -/
def reportBits : Option TestReport → Nat
  | none => 0
  | some r => 8 * r.code.toNat + (if r.ended then 64 * r.outcome.toNat else 0)

/-- The sample flags coded in bits 2 to 0 (Table 11-1). -/
def SampleFlags.code (f : SampleFlags) : Nat := f.test.toNat + 2 * f.settling.toNat + 4 * f.sensorFault.toNat

/-- A peer entry: 6 bytes (Table 11-9). -/
def PeerEntry.bytes (p : PeerEntry) : List Byte :=
  [BitVec.ofNat 8 (p.state.code + 4 * p.axis.toNat + 32 * p.bound.toNat + 64 * p.refused.toNat
      + 128 * p.frameState.code)]
    ++ bytes16 p.heard
    ++ [epochLow p.lastEpoch, p.reported.setWidth 8, BitVec.ofNat 8 (p.flags.code + reportBits p.testReport)]

/-- READ_PEERS (R151): the 16 entries are captured together at the take. -/
def execReadPeers (s : State) : Host.Outcome State Fault Refusal :=
  .next (if s.takes .readPeers then s.answer .ok (s.member.peers.flatMap PeerEntry.bytes) else s)

/-! ## Commands that act -/

/-- CLEAR_FAULTS (R130). -/
def execClearFaults (s : State) : Host.Outcome State Fault Refusal :=
  .next (if s.takes .clearFaults then s.clearFaults.answer .ok [] else s)

/-- Entry to LEAVING (R96): LEAVE is posted, the own source is unbound and the own flags are cleared. The
records of the Membership Unit and the Agreement Engine enter together (R145, log 5). -/
def State.enterLeaving (s : State) : State :=
  ({ s.unbindOwn with member := { s.unbindOwn.member with selfState := .leaving } }.post .leave 0).emitTogether
    [[evStationState s.timer.epoch .leaving], s.unbindOwnEvents]

/-- WITHDRAW (R96): taken in JOINING and ACTIVE, refused with WRONG_STATE elsewhere. -/
def execWithdraw (s : State) : Host.Outcome State Fault Refusal :=
  .next (if s.takes .withdraw then
    (if s.member.selfState.member then s.enterLeaving.answer .ok [] else s.answer .wrongState []) else s)

/-- REJOIN (R98): taken in WITHDRAWN, refused with WRONG_STATE elsewhere. -/
def execRejoin (s : State) : Host.Outcome State Fault Refusal :=
  .next (if s.takes .rejoin then
    (if s.member.selfState = .withdrawn then (s.enterJoining.emit s.joiningEvents).answer .ok []
      else s.answer .wrongState []) else s)

/-- RESTART (R99): taken in every self state. -/
def execRestart (s : State) : Host.Outcome State Fault Refusal :=
  .next (if s.takes .restart then s.restart.answer .ok [] else s)

/-- Whether START_TEST of a test is refused in the present self state (R164, case 3). -/
def State.testRefused (s : State) (c : TestCode) : Bool :=
  s.member.selfState == .lockout || (c.marksSample && s.member.selfState == .joining)

/-- START_TEST at the Self-Test Unit: the first case that applies decides (R164). -/
def State.takeStartTest (s : State) (code : Byte) : State :=
  match TestCode.ofByte code with
  | none => s.answer .badArgument []
  | some c =>
    if s.tests.running.isSome then s.answer .busy []
    else if s.testRefused c then s.answer .wrongState []
    else (s.startTest c).answer .ok []

/-- START_TEST (R164). -/
def execStartTest (code : Byte) (s : State) : Host.Outcome State Fault Refusal :=
  .next (if s.takes .startTest then s.takeStartTest code else s)

/-- CLEAR_RESULT (R171): the record is emptied, unless a test is in progress. -/
def execClearResult (s : State) : Host.Outcome State Fault Refusal :=
  .next (if s.takes .clearResult then
    (if s.tests.running.isSome then s.answer .busy [] else { s with tests.result := none }.answer .ok []) else s)

/-- POST_NOTICE (R105): refused with WRONG_STATE in LOCKOUT and with BUSY while a USER entry is pending. -/
def execPostNotice (value : Byte) (s : State) : Host.Outcome State Fault Refusal :=
  .next (if s.takes .postNotice then
    (if s.member.selfState = .lockout then s.answer .wrongState []
      else if noticePending s.line.notices .user then s.answer .busy []
      else (s.post .user value).answer .ok []) else s)

end Sys2Proof.Machine
end

