-- ==== Sys2Proof/Machine/Tick.lean ====
section
/-! DEFINITION. One bit time on an empty queue (log 2): the clock and the listen timer count, and what falls due is put
into the queue as commands: the schedule events of Table 3-3, the deadline, the listen timeout, the release,
the mark of the own drive, the ends of the own frames, the vote's completion, EPS's fall and the emission's edges. -/

namespace Sys2Proof.Machine

/-- A command if it is due. -/
def dueIf (due : Bool) (c : Instr) : List Instr := if due then [c] else []

/-- The schedule events at `t` bit times after the origin, under N stations (Table 3-3). -/
def scheduleEvents (n t : Nat) : List Instr :=
  if t < slotTime 0 then []
  else if t < closeTime n then
    (if (t - slotTime 0) % 144 = 0 then
      let k := (t - slotTime 0) / 144
      dueIf (k != 0) (.slotEnd (BitVec.ofNat 4 (k - 1))) ++ [.slotBegin (BitVec.ofNat 4 k)]
    else [])
  else if t = closeTime n then [.close]
  else if t < roundTime n 0 then []
  else if t ≤ roundTime n 4 then
    (if (t - roundTime n 0) % 64 = 0 then
      let j := (t - roundTime n 0) / 64
      dueIf (j != 0) (.roundEnd (BitVec.ofNat 2 (j - 1))) ++ dueIf (j != 4) (.roundBegin (BitVec.ofNat 2 j))
    else [])
  else []

/-- The schedule events that fall due now (R51, R52). -/
def State.scheduleDue (s : State) : List Instr :=
  match s.timer.origin with
  | some o => if s.drawn then scheduleEvents s.plan.n (s.clock - o).toNat else []
  | none => []

/-- The ends of the station's own drives that fall due now (R47, R64, R108). -/
def State.drivesDue (s : State) : List Instr :=
  dueIf (s.line.markDrive == .recognised && decide (releaseTime ≤ s.timeSinceMark)) .markDriveRelease
    ++ (match s.line.sending with
      | some f => dueIf (decide (f.since + 102 ≤ s.clock)) .ownFrameComplete
      | none => [])
    ++ (match s.line.noticeSend with
      | .sending _ since => dueIf (decide (since + 49 ≤ s.clock)) .noticeFrameComplete
      | .idle | .completed | .lost => [])

/-- The completion of a vote, at the latest 32 bit times after its delivery (R19, log 4). -/
def State.voteDue (s : State) : List Instr :=
  match s.engine.vote with
  | some v => dueIf (decide (v.deliveredAt + 32 ≤ s.clock)) .voteCompletion
  | none => []

/-- The drives of a mark that fall due now (R47, R50). -/
def State.marksDue (s : State) : List Instr :=
  dueIf (s.deadlineDue && !s.line.markDrive.isDriving) .markDeadline
    ++ dueIf (s.timeoutDue && !s.line.markDrive.isDriving) .listenTimeout

/-- The mark that the station's own drive has held the line dominant for: recognised 12 bit times after the drive's
begin, unless another station's drive in the same stretch has made it earlier (R45, R47). The measurements of that
instant come from outside and are free (log 34). -/
def State.ownMarkDue (s : State) : List Instr :=
  match s.line.markDrive with
  | .driving _ since => dueIf (decide (since + recognitionTime ≤ s.clock)) (.markRecognised (Config.markInputs s.clock))
  | .idle | .recognised => []

/-- The outputs' events that fall due now (R137, R157). -/
def State.outputsDue (s : State) : List Instr :=
  (match s.store.eps with
    | some t => dueIf (decide (t + 10 ≤ s.clock)) .epsPulseEnd
    | none => [])
    ++ (match s.emulator.emission with
      | some em => dueIf (decide (em.nextEdge s.plan.period ≤ s.clock)) .emissionEdge
      | none => [])

/-- Everything that falls due now. The outputs stand before the vote's completion, so that an edge of an emission falls
before the publication of the same instant stops it; the mark of the own drive stands last (log 2). -/
def State.due (s : State) : List Instr :=
  s.outputsDue ++ s.drivesDue ++ s.voteDue ++ s.scheduleDue ++ s.marksDue ++ s.ownMarkDue

/-- The clock and the listen timer count one bit time (R44). -/
def State.count (s : State) : State :=
  { s with clock := s.clock + 1, timer.listenTimer := min s.listenLimit (s.timer.listenTimer + 1) }

/-- One bit time passes. -/
def State.tick (s : State) : State := { s.count with pending := s.pending ++ s.count.due }

end Sys2Proof.Machine
end

