-- ==== Sys2Proof/Machine/Dispatch.lean ====
section
/-! DEFINITION. The meaning of every command: one arm per constructor of Instr. -/

namespace Sys2Proof.Machine

def exec (i : Instr) (s : State) : Host.Outcome State Fault Refusal :=
  match i with
  | .reset straps csnLow => Sys2Proof.Machine.execReset straps csnLow s
  | .markRecognised m => Sys2Proof.Machine.execMarkRecognised m s
  | .markDeadline => Sys2Proof.Machine.execMarkDeadline s
  | .listenTimeout => Sys2Proof.Machine.execListenTimeout s
  | .markDriveRelease => Sys2Proof.Machine.execMarkDriveRelease s
  | .slotBegin k => Sys2Proof.Machine.execSlotBegin k s
  | .ownFrameComplete => Sys2Proof.Machine.execOwnFrameComplete s
  | .collision => Sys2Proof.Machine.execCollision s
  | .collisionJudgement => Sys2Proof.Machine.execCollisionJudgement s
  | .frameReceived frame => Sys2Proof.Machine.execFrameReceived frame s
  | .slotEnd k => Sys2Proof.Machine.execSlotEnd k s
  | .close => Sys2Proof.Machine.execClose s
  | .voteCompletion => Sys2Proof.Machine.execVoteCompletion s
  | .epsPulseEnd => Sys2Proof.Machine.execEpsPulseEnd s
  | .emissionEdge => Sys2Proof.Machine.execEmissionEdge s
  | .roundBegin j => Sys2Proof.Machine.execRoundBegin j s
  | .noticeCollision => Sys2Proof.Machine.execNoticeCollision s
  | .noticeFrameComplete => Sys2Proof.Machine.execNoticeFrameComplete s
  | .roundEnd j => Sys2Proof.Machine.execRoundEnd j s
  | .noticeReceived frame => Sys2Proof.Machine.execNoticeReceived frame s
  | .csnFall => Sys2Proof.Machine.execCsnFall s
  | .csnRise => Sys2Proof.Machine.execCsnRise s
  | .badCommand byte => Sys2Proof.Machine.execBadCommand byte s
  | .readStatus => Sys2Proof.Machine.execReadStatus s
  | .readEvents count => Sys2Proof.Machine.execReadEvents count s
  | .eventRecordDelivered => Sys2Proof.Machine.execEventRecordDelivered s
  | .pin => Sys2Proof.Machine.execPin s
  | .unpin => Sys2Proof.Machine.execUnpin s
  | .readPage => Sys2Proof.Machine.execReadPage s
  | .readPeers => Sys2Proof.Machine.execReadPeers s
  | .clearFaults => Sys2Proof.Machine.execClearFaults s
  | .withdraw => Sys2Proof.Machine.execWithdraw s
  | .rejoin => Sys2Proof.Machine.execRejoin s
  | .restart => Sys2Proof.Machine.execRestart s
  | .startTest code => Sys2Proof.Machine.execStartTest code s
  | .clearResult => Sys2Proof.Machine.execClearResult s
  | .postNotice value => Sys2Proof.Machine.execPostNotice value s
  | .syncFound => Sys2Proof.Machine.execSyncFound s
  | .codingBroken => Sys2Proof.Machine.execCodingBroken s
  | .commandByte byte => Sys2Proof.Machine.execCommandByte byte s

end Sys2Proof.Machine
end

