-- ==== Sys2Proof/Machine/Line.lean ====
section
/-! DEFINITION. The level the part drives on the station line (R47, R172): coded halves while it sends a frame, dominant
without coding while it drives a mark, recessive otherwise. No command needs it; it is an output, read off the state. -/

namespace Sys2Proof.Machine

/-- The level of a half of the bit time that begins `elapsed` bit times after a frame's begin, dominant being `true`;
recessive outside the frame (R172). -/
def frameLevel {w : Nat} (bits : BitVec w) (elapsed : Int) (secondHalf : Bool) : Bool :=
  if elapsed < 0 then false else (codedHalves bits).getD (2 * elapsed.toNat + secondHalf.toNat) false

/-- The level the own sample frame gives. -/
def LineController.sampleLevel (l : LineController) (now : Instant) (secondHalf : Bool) : Bool :=
  match l.sending with
  | some f => frameLevel f.bits (now - f.since) secondHalf
  | none => false

/-- The level the own notice frame gives. -/
def LineController.noticeLevel (l : LineController) (now : Instant) (secondHalf : Bool) : Bool :=
  match l.noticeSend with
  | .sending bits since => frameLevel bits (now - since) secondHalf
  | .idle | .completed | .lost => false

/-- The level the part drives in a half of the bit time that begins now (R172). A mark's drive holds the line
dominant, before and after its recognition (R47). -/
def State.driveLevel (s : State) (secondHalf : Bool) : Bool :=
  s.line.markDrive != .idle || s.line.sampleLevel s.clock secondHalf || s.line.noticeLevel s.clock secondHalf

end Sys2Proof.Machine
end

