-- ==== Sys2Proof/WellFormed.lean ====
section
/-! DEFINITION. Which operands a step can come with at all. Widths are carried by the types; four rows need a check
of their own. `exec` is total, so an ill-formed command is harmless; it is simply no step of the part. -/

namespace Sys2Proof

/-- A received sample frame opens with the sample sync 0xB4 and a notice with 0x9B (R172); BAD_COMMAND's
byte names no command and COMMAND_BYTE's names one with an argument (R148, R149). -/
def Instr.wellFormed : Instr → Bool
  | .frameReceived frame => frame.extractLsb' 94 8 == 0xB4#8
  | .noticeReceived frame => frame.extractLsb' 41 8 == 0x9B#8
  | .badCommand byte => (LocalCommand.ofByte byte).isNone
  | .commandByte byte => ((LocalCommand.ofByte byte).map LocalCommand.hasArgument) == some true
  | .reset _ _ | .markRecognised _ | .markDeadline | .listenTimeout | .markDriveRelease
  | .slotBegin _ | .ownFrameComplete | .collision | .collisionJudgement | .slotEnd _ | .close
  | .voteCompletion | .epsPulseEnd | .emissionEdge | .roundBegin _ | .noticeCollision
  | .noticeFrameComplete | .roundEnd _ | .csnFall | .csnRise | .readStatus | .readEvents _
  | .eventRecordDelivered | .pin | .unpin | .readPage | .readPeers | .clearFaults | .withdraw
  | .rejoin | .restart | .startTest _ | .clearResult | .postNotice _ | .syncFound
  | .codingBroken => true

end Sys2Proof
end

