-- ==== Sys2Proof/Safety.lean ====
section
/-! DEFINITION. What the Technical Data promises of every state: the invariants, block by block, that the statements are about.
Each is a conjunction of decidable facts about plain data. -/

namespace Sys2Proof.Machine

/-! ## The Axis Table (R1 to R5, R13) -/

/-- Every station of a row appears once, in ascending order (R2). -/
def stationsAscend (sources : List Source) : Prop :=
  (sources.map Source.station).Pairwise fun a b => a.toNat < b.toNat

/-- The runs of every source lie in their ranges under a plan (R3). -/
def runsInRange (p : Plan) (sources : List Source) : Prop :=
  ∀ src ∈ sources, src.disagreeRun ≤ p.div ∧ src.agreeRun ≤ p.readmit

/-- A row as R2, R3 and R5 have it, in the table or in a vote: at most three records in ascending order, runs
in range, hold age 0 to 255, and STALE set exactly when the hold age has reached the plan's limit. -/
def Row.sound (p : Plan) (r : Row) : Prop :=
  r.sources.length ≤ 3 ∧ stationsAscend r.sources ∧ runsInRange p r.sources ∧ r.holdAge ≤ 255 ∧
    (r.stale = true ↔ p.stale ≤ r.holdAge)

/-- The row state agrees with the source list (R4). -/
def Row.consistent (r : Row) : Prop := r.state = .unbound ↔ r.sources = []

/-- No station is a source of two rows (R13). -/
def boundOnce (rows : List Row) : Prop :=
  rows.Pairwise fun r r' => ∀ a ∈ r.sources, ∀ b ∈ r'.sources, a.station ≠ b.station

/-- The Axis Table and a vote in flight keep R1 to R5 and the first part of R13. -/
def State.tableSound (s : State) : Prop :=
  s.engine.rows.length = 8 ∧ (∀ r ∈ s.engine.rows, r.sound s.plan ∧ r.consistent) ∧ boundOnce s.engine.rows ∧
    ∀ v ∈ s.engine.vote, v.rows.length = 8 ∧ ∀ r ∈ v.rows, r.sound s.plan

/-- The other parts of R13: a peer is a source exactly while its bound flag is set, of the row of its axis, and is then
PRESENT or SILENT; the own station is a source exactly while the own bound flag is set, of the row of the own axis, and
is then JOINING or ACTIVE. -/
def State.listedSound (s : State) : Prop :=
  (∀ a : Axis, (rowOf s.engine.rows a).has s.member.ownStation = true ↔
    s.member.ownBound = true ∧ a = s.member.ownAxis) ∧
  (s.member.ownBound = true → s.member.selfState = .joining ∨ s.member.selfState = .active) ∧
  ∀ k : Station, k ≠ s.member.ownStation →
    (∀ a : Axis, (rowOf s.engine.rows a).has k = true ↔
      (s.member.peer k).bound = true ∧ a = (s.member.peer k).axis) ∧
    ((s.member.peer k).bound = true → (s.member.peer k).state = .present ∨ (s.member.peer k).state = .silent)

/-! ## The Snapshot Store (R135, R137) -/

/-- Three pages of eight rows, each page in exactly one role, and the pin not on the FILL page (R135). -/
def State.rolesSound (s : State) : Prop :=
  s.store.pages.length = 3 ∧ (∀ p ∈ s.store.pages, p.rows.length = 8) ∧
    (s.store.fill :: s.store.front.toList ++ s.store.spare).Perm [0, 1, 2] ∧
    s.store.pin.map Pin.page ≠ some s.store.fill

/-! ## The Local Port (R144, R147, R148) -/

/-- At most 32 records, the records still to be delivered are in the queue, the port is CLOSED while CSN is high, and
nothing is to be delivered outside RESPONSE (R144, R147, R148). -/
def State.portSound (s : State) : Prop :=
  s.port.events.length ≤ 32 ∧ s.port.toDeliver ≤ s.port.events.length ∧
    (s.port.csnLow = false → s.port.txn = .closed) ∧ (s.port.txn ≠ .response → s.port.toDeliver = 0)

/-! ## The Notice Queue (R104, R109) -/

/-- At most four entries, no two of the same kind, each with fewer than 32 rounds pending (R104, R109). -/
def State.noticesSound (s : State) : Prop :=
  s.line.notices.length ≤ 4 ∧ (s.line.notices.map NoticeEntry.kind).Nodup ∧
    ∀ e ∈ s.line.notices, e.rounds < 32

/-! ## The Fault Register (R131) -/

/-- FLT is asserted exactly while the held set is not empty (R131). -/
def State.faultLineSound (s : State) : Prop := s.faults.flt = true ↔ s.faults.held ≠ 0

/-! ## The Pulse Emulator (R153, R157, R158, R160) -/

/-- Counter and test counter in 0 to C - 1, an emission of at most 512 edges with one still to come and none
under the test hold, and the outputs at the levels of the counter and the state (R153, R157, R158, R160). -/
def State.emulatorSound (s : State) : Prop :=
  s.emulator.counter < s.emulator.perTurn ∧ (∀ c ∈ s.emulator.testHold, c < s.emulator.perTurn) ∧
    (∀ em ∈ s.emulator.emission, em.emitted < em.planned ∧ em.planned ≤ 512 ∧ s.emulator.testHold = none) ∧
    s.emulator.enca = quadA s.emulator.counter ∧ s.emulator.encb = quadB s.emulator.counter ∧
    s.emulator.encz = indexLevel s.emulator.state s.emulator.counter

/-! ## The Epoch Timer (R48, R52, R100) -/

/-- The mark deadline is armed in JOINING, ACTIVE and LEAVING alone, at origin + P + 8 times the own
station number (R48). -/
def State.deadlineSound (s : State) : Prop :=
  s.timer.deadline = if s.member.selfState.sends then s.timer.origin.map s.deadlineFrom else none

/-- In LOCKOUT no schedule is drawn, no round is in progress and no notice waits (R52, R100). -/
def State.lockoutSound (s : State) : Prop :=
  s.member.selfState = .lockout → s.timer.position = .none ∧ s.timer.roundOpen = false ∧ s.line.notices = []

/-! ## Membership (R78, R84 to R86) -/

/-- The runs and counts of Table 5-1 in their ranges, and below their limits in the states that test them. -/
def State.memberRunsSound (s : State) : Prop :=
  s.member.listenRun ≤ 1 ∧ s.member.mismatchRun ≤ 8 ∧ s.member.joinRun ≤ 3 ∧ s.member.joinEpochs ≤ 16 ∧
    s.member.unheardRun ≤ 3 ∧
    (s.member.selfState = .listen → s.member.mismatchRun ≤ 7) ∧
    (s.member.selfState = .joining → s.member.joinRun ≤ 2 ∧ s.member.joinEpochs ≤ 15)

/-- Sixteen peer entries with their runs in range, and the own entry and those at or above N cleared but for
what notices write into it (R84 to R86, R114): never NEW, PRESENT or SILENT. -/
def State.peersSound (s : State) : Prop :=
  s.member.peers.length = 16 ∧ (∀ p ∈ s.member.peers, p.heardRun ≤ 1 ∧ p.missRun ≤ 3) ∧
    (s.member.peer s.member.ownStation).state = .absent ∧
    ∀ k : Station, s.plan.n ≤ k.toNat → (s.member.peer k).state = .absent

/-! ## The Line Controller and the Sensor Interface (R60, R75, R117, R121) -/

/-- Sixteen slot records, and invalid counts of at most 16 (R60, R75). -/
def State.bufferSound (s : State) : Prop :=
  s.line.buffer.length = 16 ∧ s.line.counts.badCheck ≤ 16 ∧ s.line.counts.plan ≤ 16 ∧
    s.line.counts.slot ≤ 16 ∧ s.line.counts.own ≤ 16

/-- The acquisition count is at most 16 and the tracking window holds at most W results (R117, R121). -/
def State.sensorSound (s : State) : Prop :=
  s.sensor.acqCount ≤ 16 ∧ s.sensor.window.length ≤ windowLength s.sensor.dw

/-! ## The Self-Test Unit (R122, R160, R163, R164) -/

/-- Step and marks remaining add up to the test's length and a test in progress has one to come; conditions are
forced only under MONITOR; the test hold stands exactly under PULSE; and the result record says RUNNING exactly
while a test is in progress (R122, R160, R163, R164). -/
def State.testsSound (s : State) : Prop :=
  (∀ r ∈ s.tests.running, r.step < r.code.length ∧ r.step + r.remaining = r.code.length) ∧
    (s.sensor.forced ≠ 0 → s.tests.runs .monitor = true) ∧
    (s.emulator.testHold.isSome = s.tests.runs .pulse) ∧
    (s.tests.running.isSome = true ↔ s.tests.result.map TestResult.outcome = some .running)

end Sys2Proof.Machine
end

