-- ==== Sys2Proof/Certificates/Slice0/Obligations.lean ====
section
/-! DEFINITION. The statements about the KT318: what each command does, where it completes, and what every step keeps.
"Answers next t" is `exec c s = .next t` throughout; every statement holds whichever way the free choices of
Config fall. -/

section Statements

open Sys2Proof Sys2Proof.Machine

/-! ## The queue and the clock -/

/-- A step takes the command at the front of the queue and runs it on the state with the queue's rest (model's choice,
log 1). -/
def Obligations.StepTakesFrontCommand : Prop :=
  ∀ (c : Instr) (rest : List Instr) (s : State), s.pending = c :: rest →
    step s = exec c { s with pending := rest }

/-- On an empty queue one bit time passes: the clock and the listen timer count (R44), nothing else of the part
changes, and what falls due at the new instant, `State.due` of the counted state, enters the queue (model's choice, log
2). -/
def Obligations.EmptyQueueStepCountsOneBitTime : Prop :=
  ∀ s : State, s.pending = [] →
    let counted := { s with
      clock := s.clock + 1
      timer.listenTimer := min (4 * s.plan.period + 120) (s.timer.listenTimer + 1) }
    step s = .next { counted with pending := counted.due }

/-- Table 3-3: on an empty queue, with the schedule drawn from an origin, a bit time puts the begin and end of slots,
the close, and the begin and end of rounds into the queue at their times after the origin and at no other (R51; that a
bit time raises them is the model's choice, log 2). -/
def Obligations.BitTimeRaisesScheduleEvents : Prop :=
  ∀ (s : State) (o : Instant) (at' : Nat), s.pending = [] → s.timer.markSeen = true →
    s.member.selfState ≠ .lockout → s.timer.origin = some o → s.clock + 1 = o + at' →
    ∃ t, step s = .next t ∧
      (∀ k : Station, Instr.slotBegin k ∈ t.pending ↔ k.toNat < s.plan.n ∧ at' = 16 + 144 * k.toNat) ∧
      (∀ k : Station, Instr.slotEnd k ∈ t.pending ↔ k.toNat + 1 < s.plan.n ∧ at' = 16 + 144 * (k.toNat + 1)) ∧
      (Instr.close ∈ t.pending ↔ at' = 16 + 144 * s.plan.n) ∧
      (∀ j : RoundNumber, Instr.roundBegin j ∈ t.pending ↔ at' = 16 + 144 * s.plan.n + 32 + 64 * j.toNat) ∧
      (∀ j : RoundNumber, Instr.roundEnd j ∈ t.pending ↔ at' = 16 + 144 * s.plan.n + 32 + 64 * (j.toNat + 1))

/-- What falls due by its own time: an armed deadline that the station does not drive for yet (R47), the listen timeout
in LISTEN (R50), the recognition of the mark that the own drive has held for 12 bit times, with measurements that are
free (R45, R47; log 34), the release of a recognised mark 16 bit times after its origin (R47), the ends of the own
frames after 102 and 49 bit times (R64, R108), the completion of a vote 32 after its delivery (log 4), the end of EPS
after 10 (R137), and the k-th edge of an emission at floor(3P k / 4m) (R157). That a bit time raises them is the
model's choice (log 2). -/
def Obligations.BitTimeRaisesTimedEvents : Prop :=
  ∀ s : State, s.pending = [] →
    ∃ t, step s = .next t ∧
      (Instr.markDeadline ∈ t.pending ↔
        s.line.markDrive.isDriving = false ∧ ∃ d ∈ s.timer.deadline, d ≤ s.clock + 1) ∧
      (Instr.listenTimeout ∈ t.pending ↔
        s.line.markDrive.isDriving = false ∧ s.member.selfState = .listen ∧
          4 * s.plan.period + 8 * s.member.ownStation.toNat ≤ t.timer.listenTimer) ∧
      (∀ m, Instr.markRecognised m ∈ t.pending ↔ m = Config.markInputs (s.clock + 1) ∧
        ∃ cold since, s.line.markDrive = .driving cold since ∧ since + 12 ≤ s.clock + 1) ∧
      (Instr.markDriveRelease ∈ t.pending ↔
        s.line.markDrive = .recognised ∧ ∃ o ∈ s.timer.origin, o + 16 ≤ s.clock + 1) ∧
      (Instr.ownFrameComplete ∈ t.pending ↔ ∃ f ∈ s.line.sending, f.since + 102 ≤ s.clock + 1) ∧
      (Instr.noticeFrameComplete ∈ t.pending ↔
        ∃ bits since, s.line.noticeSend = .sending bits since ∧ since + 49 ≤ s.clock + 1) ∧
      (Instr.voteCompletion ∈ t.pending ↔ ∃ v ∈ s.engine.vote, v.deliveredAt + 32 ≤ s.clock + 1) ∧
      (Instr.epsPulseEnd ∈ t.pending ↔ ∃ up ∈ s.store.eps, up + 10 ≤ s.clock + 1) ∧
      (Instr.emissionEdge ∈ t.pending ↔ ∃ em ∈ s.emulator.emission,
        em.start + (3 * s.plan.period * (em.emitted + 1) / (4 * em.planned) : Nat) ≤ s.clock + 1)

/-- Every command completes from every state, whether or not the part raises or takes it there, and leaves the queue to
the step: the model's choice (log 1; for RESET, which keeps the waiting commands, log 27). -/
def Obligations.EveryCommandCompletes : Prop :=
  ∀ (c : Instr) (s : State), ∃ t, exec c s = .next t ∧ t.pending = s.pending

/-- Where the part raises no such event, the command leaves the state as it is: no slot, close, round or reception
while no schedule is drawn (R52), no event of Table 3-3 before its time after the origin of the last mark (R51), and no
local command outside a transaction (R148). That it leaves the state as it is, rather than stopping, is the model's
choice (log 1). -/
def Obligations.UnraisedEventsChangeNothing : Prop :=
  (∀ (c : Instr) (s : State), (s.timer.markSeen = false ∨ s.member.selfState = .lockout) →
    ((∃ k, c = .slotBegin k) ∨ (∃ k, c = .slotEnd k) ∨ c = .close ∨ (∃ j, c = .roundBegin j) ∨
      (∃ j, c = .roundEnd j) ∨ (∃ f, c = .frameReceived f) ∨ (∃ f, c = .noticeReceived f) ∨
      c = .syncFound ∨ c = .codingBroken) →
    exec c s = .next s) ∧
  (∀ (s : State) (o : Instant), s.timer.origin = some o →
    (∀ k, s.clock < o + (16 + 144 * k.toNat : Nat) → exec (.slotBegin k) s = .next s) ∧
    (∀ k, s.clock < o + (16 + 144 * (k.toNat + 1) : Nat) → exec (.slotEnd k) s = .next s) ∧
    (s.clock < o + (16 + 144 * s.plan.n : Nat) → exec .close s = .next s) ∧
    (∀ j, s.clock < o + (16 + 144 * s.plan.n + 32 + 64 * j.toNat : Nat) → exec (.roundBegin j) s = .next s) ∧
    (∀ j, s.clock < o + (16 + 144 * s.plan.n + 32 + 64 * (j.toNat + 1) : Nat) → exec (.roundEnd j) s = .next s)) ∧
  (∀ (c : Instr) (s : State), s.port.txn = .closed →
    (c ∈ [.readStatus, .pin, .unpin, .readPage, .readPeers, .clearFaults, .withdraw, .rejoin, .restart,
        .clearResult, .eventRecordDelivered] ∨
      (∃ b, c = .badCommand b ∨ c = .commandByte b ∨ c = .readEvents b ∨ c = .startTest b ∨ c = .postNotice b)) →
    exec c s = .next s)

/-! ## Reset and RESTART -/

/-- RESET samples the straps and gives every block the values of its reset table: LISTEN, or LOCKOUT with STRAP_RANGE
held and FLT asserted when the station number is at or above N; STATION_STATE is the first event (R43, R44, R77 to R79,
R89, R17, R115, R134, R135, R152, R153, R162, R163). That no collision is awaited, no notice frame is being sent, no
round is in progress and no frame was completed in LEAVING is log 9's, that the TEST flag is clear log 13's, and that
the clock, the queue and the free-choice counter go on log 27's. -/
def Obligations.ResetTakesResetValues : Prop :=
  ∀ (x : Straps) (csnLow : Bool) (s : State), ∃ t, exec (.reset x csnLow) s = .next t ∧
    t.timer = { plan := x.pl, epoch := 0, markSeen := false, origin := none, position := .none, roundOpen := false,
                deadline := none, listenTimer := 0, epochLength := 0, selfMarked := false } ∧
    t.line = { buffer := List.replicate 16 .empty, outcome := .none, sentLate := false, sending := none,
               awaiting := false,
               receiver := .off, heard := 0, counts := ⟨0, 0, 0, 0⟩, markDrive := .idle, notices := [],
               noticeSend := .idle } ∧
    t.engine = ⟨List.replicate 8 ⟨[], .unbound, none, 0, false⟩, none⟩ ∧
    t.member = { selfState := if (planTable x.pl).n ≤ x.st.toNat then .lockout else .listen
                 ownStation := x.st, ownAxis := x.ax, listenRun := 0, mismatchRun := 0, joinRun := 0,
                 joinEpochs := 0, unheardRun := 0, ownBound := false, ownRefused := false,
                 peers := List.replicate 16
                   { state := .absent, axis := 0, heardRun := 0, missRun := 0, frameState := .joining,
                     flags := ⟨false, false, false⟩, heard := 0, lastEpoch := 0, reported := 0,
                     testReport := none, bound := false, refused := false } } ∧
    t.sensor = { conv := .acquire, acqCount := 0, prevLatch := none, sample := ⟨0, 0, true, false⟩,
                 underTest := false, evaluated := 0, forced := 0, window := [], dw := x.dw, excitation := none } ∧
    t.store = { pages := List.replicate 3
                  { valid := false, epoch := 0, selfMarked := false, selfState := .listen, presentSet := 0,
                    live := 0, held := 0,
                    rows := List.replicate 8 ⟨.unbound, false, false, 0, 0, 0, 0, 0⟩ }
                fill := 0, front := none, spare := [1, 2], pin := none, eps := none } ∧
    t.emulator = { res := x.res, state := .idle, counter := 0, emission := none, testHold := none, enca := false,
                   encb := false, encz := false } ∧
    t.tests = ⟨none, none⟩ ∧
    t.port = { txn := .closed, csnLow := csnLow, response := [], toDeliver := 0, overflow := false,
               events := if (planTable x.pl).n ≤ x.st.toNat
                 then [⟨.stationState, 0, none, none, some 5⟩, ⟨.faultHeld, 0, none, none, some 9⟩]
                 else [⟨.stationState, 0, none, none, some 0⟩] } ∧
    t.faults = (if (planTable x.pl).n ≤ x.st.toNat then ⟨0b1000000000#10, true⟩ else ⟨0, false⟩) ∧
    t.clock = s.clock ∧ t.pending = s.pending ∧ t.freeCount = s.freeCount

/-- The state after RESET meets every invariant below, for every straps and CSN level; so does `State.reset`. -/
def Obligations.ResetMeetsInvariants : Prop :=
  ∀ (x : Straps) (csnLow : Bool) (s t : State), (exec (.reset x csnLow) s = .next t ∨ t = State.reset) →
    t.tableSound ∧ t.listedSound ∧ t.rolesSound ∧ t.portSound ∧ t.noticesSound ∧ t.faultLineSound ∧
      t.emulatorSound ∧ t.deadlineSound ∧ t.lockoutSound ∧ t.memberRunsSound ∧ t.peersSound ∧ t.bufferSound ∧
      t.sensorSound ∧ t.testsSound

/-- RESTART in every self state: LISTEN, or LOCKOUT with STRAP_RANGE where the station number is out of range. The
table, the peers, the pages, the Notice Queue, the slot state and the runs are cleared, an awaited judgement is
discarded, a notice frame being sent is released and the receiver is OFF; a test is aborted; the epoch number, the
origin, the measured length, the sensor path, the held faults, the Event Queue and OVERFLOW are kept; the emulator is
FROZEN with its counter, ENCA and ENCB kept; the answer is OK. With room in the queue STATION_STATE is the first record
after the history, and the TEST_DONE of an abort, EMULATOR and the FAULT_HELD of STRAP_RANGE follow, no other; a full
queue drops them and sets OVERFLOW (R59, R65, R77, R79, R99, R110, R115, R134, R143, R145, R152, R159, R161, R163,
R170; the order of the records is log 15's, the fields without a table line log 9's). -/
def Obligations.RestartClearsAndKeeps : Prop :=
  ∀ s : State, s.port.txn = .command → ∃ t, exec .restart s = .next t ∧
    t.timer = { s.timer with
      markSeen := false, position := .none, roundOpen := false, deadline := none, listenTimer := 0 } ∧
    t.line = { buffer := List.replicate 16 .empty, outcome := .none, sentLate := false, sending := none,
               awaiting := false,
               receiver := .off, heard := 0, counts := ⟨0, 0, 0, 0⟩, markDrive := .idle, notices := [],
               noticeSend := .idle } ∧
    t.engine = ⟨List.replicate 8 Row.cleared, none⟩ ∧ t.store = SnapshotStore.initial ∧
    t.member = { s.member with
      selfState := if s.plan.n ≤ s.member.ownStation.toNat then .lockout else .listen
      listenRun := 0, mismatchRun := 0, joinRun := 0, joinEpochs := 0, unheardRun := 0
      ownBound := false, ownRefused := false, peers := List.replicate 16 PeerEntry.cleared } ∧
    (s.member.ownStation.toNat < s.plan.n → t.faults = s.faults) ∧
    (s.plan.n ≤ s.member.ownStation.toNat → t.faults = ⟨s.faults.held ||| 0b1000000000#10, true⟩) ∧
    t.sensor = { s.sensor with forced := if s.tests.runs .monitor then 0 else s.sensor.forced } ∧
    t.emulator = { s.emulator with
      state := .frozen, emission := none, testHold := none, encz := false
      enca := t.emulator.enca, encb := t.emulator.encb } ∧
    ((s.emulator.testHold = none ∨ s.emulatorSound) →
      t.emulator.enca = s.emulator.enca ∧ t.emulator.encb = s.emulator.encb) ∧
    t.tests.running = none ∧
    (∀ r ∈ s.tests.running, t.tests.result = some ⟨r.code, .aborted .restart, some s.timer.epoch⟩) ∧
    (s.tests.running = none → t.tests.result = s.tests.result) ∧
    t.clock = s.clock ∧
    t.port = { s.port with
      txn := .response, response := [0x00#8], events := t.port.events, overflow := t.port.overflow } ∧
    (s.port.events.length < 32 → ∃ later, t.port.events =
      s.port.events ++ evStationState s.timer.epoch t.member.selfState :: later) ∧
    (s.port.events.length ≤ 28 → t.port.overflow = s.port.overflow ∧ ∃ later, t.port.events =
      s.port.events ++ evStationState s.timer.epoch t.member.selfState :: later ∧
      (∀ e ∈ later, e.kind ∈ [EventKind.testDone, .emulator, .faultHeld]) ∧
      later.filter (fun e => e.kind = .testDone) =
        (s.tests.running.map fun r => evTestDone s.timer.epoch r.code (.aborted .restart)).toList ∧
      later.filter (fun e => e.kind = .emulator) =
        (if s.emulator.state = .frozen then [] else [evEmulator s.timer.epoch .frozen]) ∧
      later.filter (fun e => e.kind = .faultHeld) =
        (if s.plan.n ≤ s.member.ownStation.toNat ∧ s.faults.held.getLsbD 9 = false
          then [evFaultHeld s.timer.epoch .strapRange] else [])) ∧
    (32 ≤ s.port.events.length → t.port.events = s.port.events ∧ t.port.overflow = true)

/-! ## A recognised mark -/

/-- A recognised mark at the Epoch Timer, the Line Controller and the Membership Unit, in every self state. A stretch
that has given its mark gives no other: one the station still drives, or one that could not have begun after the last
recognition (the bound of 24 bit times is log 35's). Else the epoch number advances by 1, or is 0 at the station's own
cold start; mark seen, origin, measured length, self-marked flag (clear in LOCKOUT), listen timer and, in JOINING,
ACTIVE and LEAVING, the deadline; the buffer is emptied, the outcome is NONE, the heard set is emptied when the epoch
had no close, the counts are kept and a drive goes on as recognised. In the Notice Queue a completed in-flight entry is
taken, or stays with the argument that replaced it and rounds 0, any other in-flight entry counts as not sent, and the
FAULT and TEST that the mark posts in ACTIVE come after that (log 32): a FAULT with the reported part when it changes,
posted for the end of a test and for step 8 alone, and a TEST when INJECT or MONITOR ends at the mark, and no other. A
LEAVE so taken completes LEAVING to WITHDRAWN, with STATION_STATE (its epoch number is log 6's); a cold start enters
JOINING; else the self state, its runs and its flags are kept. Peers, Axis Table, vote in flight and pages are
unchanged (R22, R44 to R46, R48, R52, R57, R58, R61, R74, R75, R97, R108, R132, R169; that the receiver is OFF at a
mark is log 12's deduction). -/
def Obligations.MarkStartsEpoch : Prop :=
  ∀ (m : MarkInputs) (s : State),
    (s.stretchTaken = true ↔
      s.line.markDrive = .recognised ∨ ∃ o ∈ s.timer.origin, s.clock < o + 24) ∧
    (s.stretchTaken = true → exec (.markRecognised m) s = .next s) ∧
    (s.stretchTaken = false → ∃ t, exec (.markRecognised m) s = .next t ∧
    let cold := s.line.markDrive.isColdStart = true ∧ s.member.selfState = .listen
    let taken := if s.line.noticeSend = .completed
      then s.line.notices.filterMap fun e =>
        if e.inFlight = false then some e
        else if e.replaced then some { e with rounds := 0, inFlight := false, replaced := false } else none
      else s.line.notices.map fun e => { e with inFlight := false, replaced := false }
    let leaves := s.member.selfState = .leaving ∧ s.line.noticeSend = .completed ∧
      ∃ e ∈ s.line.notices, e.kind = .leave ∧ e.inFlight = true ∧ e.replaced = false
    (cold → t.timer.epoch = 0) ∧ (¬cold → t.timer.epoch = s.timer.epoch + 1) ∧
    t.timer.markSeen = true ∧ t.timer.origin = some (s.clock - 12) ∧ t.timer.listenTimer = 0 ∧
    t.timer.roundOpen = false ∧ t.timer.plan = s.timer.plan ∧
    t.timer.position = (if s.member.selfState = .lockout then .none else .mark) ∧
    (s.timer.origin = none → t.timer.epochLength = 0) ∧
    (∀ o ∈ s.timer.origin, t.timer.epochLength = BitVec.ofNat 16 (min 65535 (s.clock - 12 - o).toNat)) ∧
    (t.timer.selfMarked = true ↔ s.member.selfState ≠ .lockout ∧
      (m.drove = true ∨ ∃ cold since, s.line.markDrive = .driving cold since)) ∧
    ((t.member.selfState = .joining ∨ t.member.selfState = .active ∨ t.member.selfState = .leaving) →
      t.timer.deadline = some (s.clock - 12 + s.plan.period + 8 * s.member.ownStation.toNat)) ∧
    t.line.buffer = List.replicate 16 .empty ∧ t.line.outcome = .none ∧ t.line.sentLate = false ∧
    t.line.sending = none ∧
    t.line.awaiting = false ∧ t.line.receiver = .off ∧ t.line.noticeSend = .idle ∧ t.line.counts = s.line.counts ∧
    (s.member.selfState ≠ .lockout →
      (s.timer.position = .gap ∨ (∃ j, s.timer.position = .round j) ∨ s.timer.position = .idle) →
      t.line.heard = s.line.heard) ∧
    ((s.member.selfState = .lockout ∨ s.timer.position = .none ∨ ∃ k, s.timer.position = .slot k) →
      t.line.heard = 0) ∧
    ((∃ cold since, s.line.markDrive = .driving cold since) → t.line.markDrive = .recognised) ∧
    ((∀ cold since, s.line.markDrive ≠ .driving cold since) → t.line.markDrive = s.line.markDrive) ∧
    (∃ posts : List (NoticeKind × Byte), (∀ p ∈ posts, p.1 = .fault ∨ p.1 = .test) ∧
      (s.member.selfState ≠ .active → posts = []) ∧
      (reportedPart t.faults.held = reportedPart s.faults.held → ∀ p ∈ posts, p.1 ≠ .fault) ∧
      (s.member.selfState = .active → reportedPart t.faults.held ≠ reportedPart s.faults.held →
        ∃ earlier, posts.filter (fun p => p.1 = .fault) =
          earlier ++ [(.fault, (reportedPart t.faults.held).setWidth 8)] ∧ earlier.length ≤ 1) ∧
      (s.member.selfState = .active → posts.filter (fun p => p.1 = .test) =
        match s.tests.running, t.tests.running, t.tests.result with
        | some r, none, some e => if r.code = .inject ∨ r.code = .monitor
          then [(.test, BitVec.ofNat 8 (r.code.code + 8 + 16 * e.outcome.code))] else []
        | _, _, _ => []) ∧
      t.line.notices = posts.foldl (fun q p => postNotice q p.1 p.2) taken) ∧
    (leaves → t.member = { s.member with selfState := .withdrawn } ∧ t.timer.deadline = none) ∧
    (cold → t.member = { s.member with
      selfState := .joining, listenRun := 0, mismatchRun := 0, joinRun := 0, joinEpochs := 0 }) ∧
    (¬leaves → ¬cold → t.member = s.member) ∧
    (s.port.events.length ≤ 20 → ∃ new, t.port.events = s.port.events ++ new ∧
      (leaves → ∃ e, (e = s.timer.epoch ∨ e = t.timer.epoch) ∧
        new.filter (fun r => r.kind = .stationState) = [evStationState e .withdrawn]) ∧
      (cold → new.filter (fun r => r.kind = .stationState) = [evStationState 0 .joining]) ∧
      (¬leaves → ¬cold → new.filter (fun r => r.kind = .stationState) = [])) ∧
    t.engine = s.engine ∧ t.store = s.store ∧ t.clock = s.clock ∧
    t.port.txn = s.port.txn ∧ t.port.response = s.port.response)

/-- A recognised mark at the Sensor Interface and the Fault Register, under a test or none and at a cold start or not,
in a stretch that has given none yet (R45): conditions from the measurements, TRACKING from the window, Table 7-4 for
the Converter, the latch (INJECT's angle in place of the Converter's own), the velocity and the flags, the TEST flag of
the sample set exactly when INJECT or MONITOR was in progress at the mark. At a cold start the Converter is realigned
after these steps (R124). Each condition evaluated live is held afterwards, with FAULT_HELD in the order of R129 for
each new sensor kind, FLT asserted and, in ACTIVE, a FAULT notice pending that carries the reported part (R63, R119 to
R127, R129, R131, R132; that the TEST flag is the sample's own field, set at the mark, is log 13's deduction). SELFTEST
alone may be held beside them, by the end of a test, which the statements on the tests say. That FAULT_HELD carries the
number after the advance of the same mark is the model's choice (log 33). -/
def Obligations.MarkJudgesSensor : Prop :=
  ∀ (m : MarkInputs) (s : State), s.stretchTaken = false →
    let cold := s.line.markDrive.isColdStart = true ∧ s.member.selfState = .listen
    let loss := m.sinLow || m.cosLow || m.excAbsent
    ∃ t conv count window, exec (.markRecognised m) s = .next t ∧
      (loss = true → conv = .hold ∧ count = 0 ∧ window = s.sensor.window) ∧
      (loss = false →
        (s.sensor.conv = .hold → conv = .acquire ∧ count = 0 ∧ window = []) ∧
        (s.sensor.conv = .acquire → m.belowLock = false → conv = .acquire ∧ count = 0) ∧
        (s.sensor.conv = .acquire → m.belowLock = true → s.sensor.acqCount < 15 →
          conv = .acquire ∧ count = s.sensor.acqCount + 1) ∧
        (s.sensor.conv = .acquire → m.belowLock = true → 15 ≤ s.sensor.acqCount → conv = .track ∧ count = 16) ∧
        (s.sensor.conv = .track → conv = .track ∧ count = s.sensor.acqCount) ∧
        (s.sensor.conv ≠ .hold → window = (s.sensor.window ++ [m.exceeded]).drop
          (s.sensor.window.length + 1 - windowLength s.sensor.dw))) ∧
      (¬cold → t.sensor.conv = conv ∧ t.sensor.acqCount = count ∧ t.sensor.window = window ∧
        t.sensor.excitation = s.sensor.excitation) ∧
      (cold → t.sensor.conv = .acquire ∧ t.sensor.acqCount = 0 ∧ t.sensor.window = [] ∧
        t.sensor.excitation = t.timer.origin) ∧
      t.sensor.evaluated = condSet m.sinLow m.cosLow m.sumOut m.excAbsent
        (decide (windowLength s.sensor.dw / 2 < window.count true)) ∧
      t.sensor.prevLatch = some (if conv = .hold then s.sensor.prevLatch.getD 0 else m.tracked) ∧
      ((∀ r ∈ s.tests.running, r.code ≠ .inject) → t.sensor.prevLatch = some t.sensor.sample.angle) ∧
      (∀ r ∈ s.tests.running, r.code = .inject → r.step < 12 → t.sensor.sample.angle =
        if r.step < 4 then 0x1555#16 else if r.step < 8 then 0x9AAA#16 else 0xF000#16) ∧
      (s.sensor.prevLatch = none → t.sensor.sample.velocity = 0) ∧
      (∀ p ∈ s.sensor.prevLatch, t.sensor.sample.velocity = t.sensor.sample.angle - p) ∧
      (t.sensor.sample.settling = true ↔ conv = .acquire) ∧
      (t.sensor.sample.sensorFault = true ↔
        conv = .hold ∨ t.sensor.evaluated.getLsbD 2 = true ∨ t.sensor.evaluated.getLsbD 4 = true) ∧
      (t.sensor.underTest = true ↔ ∃ r ∈ s.tests.running, r.code = .inject ∨ r.code = .monitor) ∧
      ((∀ r ∈ s.tests.running, r.code ≠ .monitor) → t.sensor.forced = s.sensor.forced) ∧
      t.sensor.dw = s.sensor.dw ∧
      (∀ i : Nat, i ≠ 5 → (t.faults.held.getLsbD i = true ↔
        s.faults.held.getLsbD i = true ∨ t.sensor.evaluated.getLsbD i = true)) ∧
      (s.faults.held.getLsbD 5 = true → t.faults.held.getLsbD 5 = true) ∧
      (s.tests.running = none → t.faults.held.getLsbD 5 = s.faults.held.getLsbD 5 ∧
        (t.faults.held = s.faults.held → t.faults = s.faults)) ∧
      (t.faults.held ≠ s.faults.held → t.faults.flt = true) ∧
      (s.port.events.length ≤ 20 →
        (t.port.events.drop s.port.events.length).filter
            (fun e => e.kind = .faultHeld ∧ e ≠ evFaultHeld t.timer.epoch .selfTest) =
          (sensorKinds.filter fun k => holds t.faults.held k && !holds s.faults.held k).map
            (evFaultHeld t.timer.epoch)) ∧
      (s.member.selfState = .active → reportedPart t.faults.held ≠ reportedPart s.faults.held →
        ∃ e ∈ t.line.notices, e.kind = .fault ∧ e.argument = (reportedPart t.faults.held).setWidth 8)

/-- A mark during a slot cuts the epoch: EPOCH_CUT, carrying the number before the advance, is among the records the
mark appends, the own frame and the buffer are gone and no vote begins; a mark at any other position appends no
EPOCH_CUT. No schedule event of the epoch that the mark ends is raised after it: one that waits behind the mark changes
nothing (R51, R54, R55). -/
def Obligations.MarkInSlotCutsEpoch : Prop :=
  ∀ (m : MarkInputs) (s : State), s.stretchTaken = false → s.port.events.length ≤ 20 →
    ∃ t new, exec (.markRecognised m) s = .next t ∧ t.port.events = s.port.events ++ new ∧
      ((∃ k, s.timer.position = .slot k) →
        new.filter (fun e => e.kind = .epochCut) = [evPlain .epochCut s.timer.epoch]) ∧
      ((∀ k, s.timer.position ≠ .slot k) → new.filter (fun e => e.kind = .epochCut) = []) ∧
      t.line.sending = none ∧ t.line.buffer = List.replicate 16 .empty ∧ t.engine = s.engine ∧
      (∀ k, exec (.slotBegin k) t = .next t ∧ exec (.slotEnd k) t = .next t) ∧ exec .close t = .next t ∧
      ∀ j, exec (.roundBegin j) t = .next t ∧ exec (.roundEnd j) t = .next t

/-- The station's own cold start: in LISTEN the mark it drives takes it to JOINING with epoch number 0, the self-marked
flag set, the deadline armed from the mark's origin, the Converter realigned after the mark's own steps, and
STATION_STATE appended; INJECT or MONITOR in progress has ended after it, by its step of the mark or by the abort (R50,
R57, R92, R124, R170; that the step comes first is log 31's choice, and that its record and result carry the number
after the advance, 0, is log 33's). -/
def Obligations.ColdStartMarkJoins : Prop :=
  ∀ (m : MarkInputs) (s : State) (since : Instant), s.stretchTaken = false →
    s.line.markDrive = .driving true since → s.member.selfState = .listen → s.port.events.length ≤ 20 →
    ∃ t new, exec (.markRecognised m) s = .next t ∧ t.member.selfState = .joining ∧ t.timer.epoch = 0 ∧
      t.timer.selfMarked = true ∧
      t.timer.deadline = some (s.clock - 12 + s.plan.period + 8 * s.member.ownStation.toNat) ∧
      t.member.joinRun = 0 ∧ t.member.joinEpochs = 0 ∧ t.member.listenRun = 0 ∧ t.member.mismatchRun = 0 ∧
      t.sensor.conv = .acquire ∧ t.sensor.acqCount = 0 ∧ t.sensor.window = [] ∧
      t.sensor.excitation = some (s.clock - 12) ∧
      t.port.events = s.port.events ++ new ∧ evStationState 0 .joining ∈ new ∧
      (∀ r ∈ s.tests.running, (r.code = .inject ∨ r.code = .monitor) →
        ∃ o, t.tests = ⟨none, some ⟨r.code, o, some 0⟩⟩ ∧ evTestDone 0 r.code o ∈ new ∧
          (o = (testDecision r.code (r.step + 1) m s.emulator.counter s.emulator.perTurn).getD (.aborted .state)))

/-- INJECT at its mark i + 1: the injected angle is latched in place of the Converter's own, which becomes the previous
latch; a readback within 2 counts passes the step, the twelfth ends the test with PASS, and a readback further off ends
it with FAIL and the mark's number and holds SELFTEST (R125, R126, R165, R169; that this number is the one after the
mark's advance is log 33's choice, and that the sample's TEST flag is set from the mark on is log 13's deduction). Its
records and notices are said with those of the other tests in the next statement. -/
def Obligations.InjectStepLatchesAngle : Prop :=
  ∀ (m : MarkInputs) (s : State) (i left : Nat) (a : Angle), s.stretchTaken = false →
    s.tests.running = some ⟨.inject, i, left⟩ → i < 12 →
    ¬(s.line.markDrive.isColdStart = true ∧ s.member.selfState = .listen) →
    a = (if i < 4 then 0x1555#16 else if i < 8 then 0x9AAA#16 else 0xF000#16) →
    ∃ t, exec (.markRecognised m) s = .next t ∧ t.sensor.sample.angle = a ∧ t.sensor.underTest = true ∧
      t.sensor.prevLatch = some (if t.sensor.conv = .hold then s.sensor.prevLatch.getD 0 else m.tracked) ∧
      (circMag m.latchReadback a ≤ 2 → i < 11 →
        t.tests.running = some ⟨.inject, i + 1, left - 1⟩ ∧ t.tests.result = s.tests.result) ∧
      (circMag m.latchReadback a ≤ 2 → i = 11 →
        t.tests = ⟨none, some ⟨.inject, .pass, some t.timer.epoch⟩⟩) ∧
      (2 < circMag m.latchReadback a →
        t.tests = ⟨none, some ⟨.inject, .fail (i + 1), some t.timer.epoch⟩⟩ ∧
          t.faults.held.getLsbD 5 = true ∧ t.faults.flt = true)

/-- MONITOR and PULSE at a mark, PULSE at a cold start too. MONITOR checks its condition in the readback and rewrites
the forced conditions at its even marks; PULSE moves the test counter up by 100 at mark 1 and down by 100 at mark 3,
modulo C, and checks it at marks 2 and 4; a failed check ends the test with FAIL and the mark's number, the last passed
one with PASS, and every end empties the forced conditions or clears the hold. A mark moves nothing of the emulator but
the test hold, and that under PULSE alone. At a mark that ends INJECT, MONITOR or PULSE, and at no other, with no test
or VOTE in progress neither, TEST_DONE is appended, INJECT and MONITOR in ACTIVE leave an END notice pending, and a
FAIL holds SELFTEST, with FAULT_HELD and, in ACTIVE, a FAULT notice where it was not held (R132, R166, R168, R169; that
the records carry the number after the advance is log 33's choice). -/
def Obligations.MonitorAndPulseSteps : Prop :=
  ∀ (m : MarkInputs) (s : State) (i left : Nat), s.stretchTaken = false →
    let cold := s.line.markDrive.isColdStart = true ∧ s.member.selfState = .listen
    ∃ t, exec (.markRecognised m) s = .next t ∧
      ((∀ r ∈ s.tests.running, r.code ≠ .pulse) → t.emulator = s.emulator) ∧
      (t.tests.running ≠ none ∨ s.emulatorSound →
        t.emulator = { s.emulator with testHold := t.emulator.testHold }) ∧
      ((∀ r ∈ s.tests.running, r.code = .vote) → t.tests = s.tests ∧
        t.faults.held.getLsbD 5 = s.faults.held.getLsbD 5 ∧
        (s.port.events.length ≤ 20 → ∃ new, t.port.events = s.port.events ++ new ∧
          new.filter (fun e => e.kind = .testDone) = [] ∧ evFaultHeld t.timer.epoch .selfTest ∉ new)) ∧
      (s.tests.running = some ⟨.monitor, i, left⟩ → i < 10 → ¬cold →
        (m.liveReadback.getLsbD (i / 2) = false →
          t.tests = ⟨none, some ⟨.monitor, .fail (i + 1), some t.timer.epoch⟩⟩ ∧ t.sensor.forced = 0) ∧
        (m.liveReadback.getLsbD (i / 2) = true → i = 9 →
          t.tests = ⟨none, some ⟨.monitor, .pass, some t.timer.epoch⟩⟩ ∧ t.sensor.forced = 0) ∧
        (m.liveReadback.getLsbD (i / 2) = true → i < 9 →
          t.tests.running = some ⟨.monitor, i + 1, left - 1⟩ ∧
            t.sensor.forced = if i % 2 = 1 then 1#5 <<< ((i + 1) / 2) else s.sensor.forced)) ∧
      (∀ c, s.tests.running = some ⟨.pulse, i, left⟩ → s.emulator.testHold = some c → c < s.emulator.perTurn →
        t.emulator.counter = s.emulator.counter ∧
        (i = 0 → t.tests.running = some ⟨.pulse, 1, left - 1⟩ ∧
          t.emulator.testHold = some ((c + 100) % s.emulator.perTurn)) ∧
        (i = 1 → m.countReadback.toNat = (s.emulator.counter + 100) % s.emulator.perTurn →
          t.tests.running = some ⟨.pulse, 2, left - 1⟩ ∧ t.emulator.testHold = some c) ∧
        (i = 1 → m.countReadback.toNat ≠ (s.emulator.counter + 100) % s.emulator.perTurn →
          t.tests = ⟨none, some ⟨.pulse, .fail 2, some t.timer.epoch⟩⟩ ∧ t.emulator.testHold = none) ∧
        (i = 2 → t.tests.running = some ⟨.pulse, 3, left - 1⟩ ∧
          t.emulator.testHold = some ((c + s.emulator.perTurn - 100) % s.emulator.perTurn)) ∧
        (i = 3 → m.countReadback.toNat = s.emulator.counter →
          t.tests = ⟨none, some ⟨.pulse, .pass, some t.timer.epoch⟩⟩ ∧ t.emulator.testHold = none) ∧
        (i = 3 → m.countReadback.toNat ≠ s.emulator.counter →
          t.tests = ⟨none, some ⟨.pulse, .fail 4, some t.timer.epoch⟩⟩ ∧ t.emulator.testHold = none)) ∧
      (∀ r ∈ s.tests.running, r.code ≠ .vote → (¬cold ∨ r.code = .pulse) → s.port.events.length ≤ 20 →
        ∃ new, t.port.events = s.port.events ++ new ∧
          (t.tests.running ≠ none →
            new.filter (fun e => e.kind = .testDone) = [] ∧ evFaultHeld t.timer.epoch .selfTest ∉ new) ∧
          (t.tests.running = none → ∃ o, (o = .pass ∨ ∃ n, o = .fail n) ∧
            t.tests.result = some ⟨r.code, o, some t.timer.epoch⟩ ∧
            new.filter (fun e => e.kind = .testDone) = [evTestDone t.timer.epoch r.code o] ∧
            (s.member.selfState = .active → r.code ≠ .pulse → ∃ e ∈ t.line.notices, e.kind = .test ∧
              e.rounds = 0 ∧ e.argument = BitVec.ofNat 8 (r.code.code + 8 + 16 * o.code)) ∧
            (o = .pass → t.faults.held.getLsbD 5 = s.faults.held.getLsbD 5 ∧
              evFaultHeld t.timer.epoch .selfTest ∉ new) ∧
            (o ≠ .pass → t.faults.held.getLsbD 5 = true ∧ t.faults.flt = true ∧
              (evFaultHeld t.timer.epoch .selfTest ∈ new ↔ s.faults.held.getLsbD 5 = false) ∧
              (s.member.selfState = .active → s.faults.held.getLsbD 5 = false → ∃ e ∈ t.line.notices,
                e.kind = .fault ∧ e.argument = (reportedPart t.faults.held).setWidth 8))))

/-! ## Driving a mark -/

/-- MARK_DEADLINE, LISTEN_TIMEOUT and MARK_DRIVE_RELEASE: the drive begins at an armed deadline that has fallen due or,
as a cold start, at the listen timeout in LISTEN; it goes on if the station drives already; a disarmed deadline, a
deadline or a timeout that a mark taken first has moved on, and a timeout outside LISTEN drive nothing; the driver of a
recognised mark releases. Nothing else changes (R47, R48, R50, R56; that a release without a recognised drive changes
nothing is log 1's choice). The level driven: dominant through a mark's drive, the coded halves of the bit whose time
it is while a frame is sent, recessive otherwise (R47, R172). -/
def Obligations.MarkDrivesBeginAndEnd : Prop :=
  ∀ s : State,
    (∀ d ∈ s.timer.deadline, d ≤ s.clock → (∀ cold since, s.line.markDrive ≠ .driving cold since) →
      exec .markDeadline s = .next { s with line.markDrive := .driving false s.clock }) ∧
    ((∀ d ∈ s.timer.deadline, s.clock < d) ∨ (∃ cold since, s.line.markDrive = .driving cold since) →
      exec .markDeadline s = .next s) ∧
    (s.member.selfState = .listen → 4 * s.plan.period + 8 * s.member.ownStation.toNat ≤ s.timer.listenTimer →
      (∀ cold since, s.line.markDrive ≠ .driving cold since) →
      exec .listenTimeout s = .next { s with line.markDrive := .driving true s.clock }) ∧
    (s.member.selfState ≠ .listen ∨ s.timer.listenTimer < 4 * s.plan.period + 8 * s.member.ownStation.toNat ∨
        (∃ cold since, s.line.markDrive = .driving cold since) →
      exec .listenTimeout s = .next s) ∧
    (s.line.markDrive = .recognised → exec .markDriveRelease s = .next { s with line.markDrive := .idle }) ∧
    (s.line.markDrive ≠ .recognised → exec .markDriveRelease s = .next s) ∧
    (s.line.markDrive ≠ .idle → ∀ half, s.driveLevel half = true) ∧
    (s.line.markDrive = .idle → s.line.sending = none →
      (∀ bits since, s.line.noticeSend ≠ .sending bits since) → ∀ half, s.driveLevel half = false) ∧
    (∀ (f : SampleSend) (i : Nat), i < 102 → s.line.markDrive = .idle → s.line.sending = some f →
      (∀ bits since, s.line.noticeSend ≠ .sending bits since) → s.clock = f.since + i →
      s.driveLevel false = !f.bits.getLsbD (101 - i) ∧ s.driveLevel true = f.bits.getLsbD (101 - i)) ∧
    (∀ (bits : BitVec 49) (since : Instant) (i : Nat), i < 49 → s.line.markDrive = .idle → s.line.sending = none →
      s.line.noticeSend = .sending bits since → s.clock = since + i →
      s.driveLevel false = !bits.getLsbD (48 - i) ∧ s.driveLevel true = bits.getLsbD (48 - i))

/-! ## Slots -/

/-- SLOT_BEGIN at or after its time, in a drawn schedule that has not reached slot k: in the own slot a JOINING or
ACTIVE station whose outcome is NONE fixes its frame from Table 4-3, is SENDING and turns its receiver OFF; in every
other slot, and where it does not send, the receiver is SEARCHING. Nothing else changes (R51, R62, R63, R67; the kept
TEST flag is log 13's). -/
def Obligations.SlotBeginSendsOrSearches : Prop :=
  ∀ (k : Station) (s : State), s.timer.markSeen = true → s.member.selfState ≠ .lockout → k.toNat < s.plan.n →
    (∃ o ∈ s.timer.origin, o + (16 + 144 * k.toNat : Nat) ≤ s.clock) →
    (s.timer.position = .mark ∨ ∃ j : Station, s.timer.position = .slot j ∧ j.toNat < k.toNat) →
    (k = s.member.ownStation → (s.member.selfState = .joining ∨ s.member.selfState = .active) →
      s.line.outcome = .none →
      exec (.slotBegin k) s = .next { s with
        timer.position := .slot k
        sensor.underTest := s.sensor.underTest || s.tests.runs .inject || s.tests.runs .monitor
        line.outcome := .sending
        line.sending := some ⟨sampleFrame s.timer.plan {
          station := s.member.ownStation
          axis := s.member.ownAxis
          state := if s.member.selfState = .active then .active else .joining
          flags := ⟨s.sensor.underTest || s.tests.runs .inject || s.tests.runs .monitor,
            s.sensor.sample.settling, s.sensor.sample.sensorFault⟩
          epoch := s.timer.epoch
          angle := s.sensor.sample.angle
          velocity := s.sensor.sample.velocity
          heard := s.line.heard }, s.clock⟩
        line.receiver := .off }) ∧
    (k = s.member.ownStation →
      (s.member.selfState ≠ .joining ∧ s.member.selfState ≠ .active ∨ s.line.outcome ≠ .none) →
      exec (.slotBegin k) s = .next { s with
        timer.position := .slot k
        sensor.underTest := s.sensor.underTest || s.tests.runs .inject || s.tests.runs .monitor
        line.receiver := .searching }) ∧
    (k ≠ s.member.ownStation →
      exec (.slotBegin k) s = .next { s with timer.position := .slot k, line.receiver := .searching })

/-- The own frame's send ends: OWN_FRAME_COMPLETE with SENT, in LEAVING too, which is noted for R72 (log 37), COLLISION
with STOPPED and a judgement awaited; a notice frame ends by NOTICE_COLLISION, which loses the round and clears the
entry's flags, or by NOTICE_FRAME_COMPLETE, after which the frame is no receipt. Nothing else changes (R64, R65, R107,
R108, R111). -/
def Obligations.OwnFramesEnd : Prop :=
  ∀ s : State,
    (s.line.outcome = .sending →
      exec .ownFrameComplete s = .next { s with
        line.outcome := .sent
        line.sentLate := decide (s.member.selfState = .leaving)
        line.sending := none } ∧
      exec .collision s = .next { s with
        line.outcome := .stopped, line.sending := none, line.awaiting := true }) ∧
    (∀ bits since, s.line.noticeSend = .sending bits since →
      exec .noticeCollision s = .next { s with
        line.noticeSend := .lost
        line.notices := s.line.notices.map fun e => { e with inFlight := false, replaced := false } } ∧
      exec .noticeFrameComplete s = .next { s with line.noticeSend := .completed, line.receiver := .settled })

/-- COLLISION_JUDGEMENT of an awaited collision is DUPLICATE_ID: the fault is held and FLT asserted, and the station
enters LOCKOUT: unbound and with both own flags clear, no schedule, no deadline, no notices, a test aborted. Peers,
runs, pages, epoch number, own outcome and clock, a vote in flight, the rest of the Axis Table, and what the abort does
not end of the Sensor Interface, the Pulse Emulator and the tests are kept. With room, STATION_STATE, the FAULT_HELD of
a fault not held before and the TEST_DONE of an aborted test are appended, with the ROW_STATE of the unbind alone
beside them, in an order that R145 leaves open (R52, R65, R66, R100, R128, R170; that the receiver is OFF in LOCKOUT is
log 12's deduction). -/
def Obligations.CollisionJudgementLocksOut : Prop :=
  ∀ s : State, s.line.awaiting = true → s.member.selfState ≠ .lockout →
    ∃ t, exec .collisionJudgement s = .next t ∧ t.member.selfState = .lockout ∧
      t.faults = ⟨s.faults.held ||| 0b0010000000#10, true⟩ ∧
      t.timer = { s.timer with position := .none, roundOpen := false, deadline := none } ∧
      t.line = { s.line with
        awaiting := false, receiver := .off, notices := [], noticeSend := .idle } ∧
      t.member = { s.member with selfState := .lockout, ownBound := false, ownRefused := false } ∧
      (s.member.ownBound = true →
        t.engine.rows = (unbindRows s.timer.epoch s.engine.rows s.member.ownStation).1 ∧
        ∀ r ∈ t.engine.rows, r.has s.member.ownStation = false) ∧
      (s.member.ownBound = false → t.engine.rows = s.engine.rows) ∧
      t.store = s.store ∧ t.tests.running = none ∧
      (∀ r ∈ s.tests.running, t.tests.result = some ⟨r.code, .aborted .lockout, some s.timer.epoch⟩) ∧
      (s.tests.running = none → t.tests = s.tests) ∧
      t.clock = s.clock ∧
      t.sensor = { s.sensor with forced := if s.tests.runs .monitor then 0 else s.sensor.forced } ∧
      (s.tests.runs .pulse = false → t.emulator = s.emulator) ∧
      (s.emulatorSound → t.emulator = { s.emulator with
        testHold := if s.tests.runs .pulse then none else s.emulator.testHold }) ∧
      (t.engine.vote = s.engine.vote.map fun v => { v with testRuns := v.testRuns && !s.tests.runs .vote }) ∧
      (s.port.events.length ≤ 20 → boundOnce s.engine.rows → ∃ new, t.port.events = s.port.events ++ new ∧
        (∀ e ∈ new, e.kind ∈ [EventKind.stationState, .faultHeld, .testDone, .rowState]) ∧
        new.filter (fun e => e.kind = .stationState) = [evStationState s.timer.epoch .lockout] ∧
        new.filter (fun e => e.kind = .faultHeld) =
          (if s.faults.held.getLsbD 7 then [] else [evFaultHeld s.timer.epoch .duplicateId]) ∧
        new.filter (fun e => e.kind = .testDone) =
          (s.tests.running.map fun r => evTestDone s.timer.epoch r.code (.aborted .lockout)).toList ∧
        new.filter (fun e => e.kind = .rowState) =
          (if s.member.ownBound then (unbindRows s.timer.epoch s.engine.rows s.member.ownStation).2 else []))

/-- FRAME_RECEIVED in slot k, by a receiver that has found its sync in this slot: a frame that opens with the sample
sync goes by the checks of Table 4-4 in their order, and nothing but the slot's record and the receiver changes, except
in LISTEN under the own number: DUPLICATE_ID and LOCKOUT, with the effects and records of a judged collision: unbound,
a test aborted, STATION_STATE, FAULT_HELD, TEST_DONE and the unbind's ROW_STATE, in an order that R145 leaves open;
clock, a vote in flight, and what the abort does not end of the Sensor Interface and the Pulse Emulator are kept. Bits
that open otherwise, and a frame for a receiver that is not RECEIVING, change nothing (R67 to R70, R100, R128, R170,
R172; that the receiver is OFF in LOCKOUT is log 12's deduction). -/
def Obligations.SampleFrameTakesItsForm : Prop :=
  ∀ (frame : BitVec 102) (k : Station) (s : State), s.timer.markSeen = true → s.member.selfState ≠ .lockout →
    s.timer.position = .slot k →
    (s.line.receiver ≠ .receiving ∨ frame.extractLsb' 94 8 ≠ 0xB4#8 → exec (.frameReceived frame) s = .next s) ∧
    (s.line.receiver = .receiving → frame.extractLsb' 94 8 = 0xB4#8 →
    (sampleCheckOk frame = false →
      exec (.frameReceived frame) s = .next { s with
        line.buffer := s.line.buffer.set k.toNat (.invalid .badCheck), line.receiver := .settled }) ∧
    (sampleCheckOk frame = true → samplePlan frame ≠ s.timer.plan →
      exec (.frameReceived frame) s = .next { s with
        line.buffer := s.line.buffer.set k.toNat (.invalid .plan), line.receiver := .settled }) ∧
    (sampleCheckOk frame = true → samplePlan frame = s.timer.plan → (sampleRecord frame).station ≠ k →
      exec (.frameReceived frame) s = .next { s with
        line.buffer := s.line.buffer.set k.toNat (.invalid .slot), line.receiver := .settled }) ∧
    (sampleCheckOk frame = true → samplePlan frame = s.timer.plan → (sampleRecord frame).station = k →
      k ≠ s.member.ownStation →
      exec (.frameReceived frame) s = .next { s with
        line.buffer := s.line.buffer.set k.toNat (.valid (sampleRecord frame)), line.receiver := .settled }) ∧
    (sampleCheckOk frame = true → samplePlan frame = s.timer.plan → (sampleRecord frame).station = k →
      k = s.member.ownStation → s.member.selfState ≠ .listen →
      exec (.frameReceived frame) s = .next { s with
        line.buffer := s.line.buffer.set k.toNat (.invalid .own), line.receiver := .settled }) ∧
    (sampleCheckOk frame = true → samplePlan frame = s.timer.plan → (sampleRecord frame).station = k →
      k = s.member.ownStation → s.member.selfState = .listen →
      ∃ t, exec (.frameReceived frame) s = .next t ∧
        t.line.buffer = s.line.buffer.set k.toNat (.invalid .duplicateId) ∧ t.member.selfState = .lockout ∧
        t.faults = ⟨s.faults.held ||| 0b0010000000#10, true⟩ ∧ t.timer.position = .none ∧
        t.timer = { s.timer with position := .none, roundOpen := false, deadline := none } ∧
        t.line.notices = [] ∧ t.store = s.store ∧
        t.line.awaiting = false ∧ t.line.receiver = .off ∧ t.line.noticeSend = .idle ∧
        t.member = { s.member with selfState := .lockout, ownBound := false, ownRefused := false } ∧
        (s.member.ownBound = true →
          t.engine.rows = (unbindRows s.timer.epoch s.engine.rows s.member.ownStation).1) ∧
        (s.member.ownBound = false → t.engine.rows = s.engine.rows) ∧ t.tests.running = none ∧
        (∀ r ∈ s.tests.running, t.tests.result = some ⟨r.code, .aborted .lockout, some s.timer.epoch⟩) ∧
        (s.tests.running = none → t.tests = s.tests) ∧
        t.clock = s.clock ∧
        t.sensor = { s.sensor with forced := if s.tests.runs .monitor then 0 else s.sensor.forced } ∧
        (s.tests.runs .pulse = false → t.emulator = s.emulator) ∧
        (s.emulatorSound → t.emulator = { s.emulator with
          testHold := if s.tests.runs .pulse then none else s.emulator.testHold }) ∧
        (t.engine.vote = s.engine.vote.map fun v => { v with testRuns := v.testRuns && !s.tests.runs .vote }) ∧
        (s.port.events.length ≤ 20 → boundOnce s.engine.rows → ∃ new, t.port.events = s.port.events ++ new ∧
          (∀ e ∈ new, e.kind ∈ [EventKind.stationState, .faultHeld, .testDone, .rowState]) ∧
          new.filter (fun e => e.kind = .stationState) = [evStationState s.timer.epoch .lockout] ∧
          new.filter (fun e => e.kind = .faultHeld) =
            (if s.faults.held.getLsbD 7 then [] else [evFaultHeld s.timer.epoch .duplicateId]) ∧
          new.filter (fun e => e.kind = .testDone) =
            (s.tests.running.map fun r => evTestDone s.timer.epoch r.code (.aborted .lockout)).toList ∧
          new.filter (fun e => e.kind = .rowState) =
            (if s.member.ownBound then (unbindRows s.timer.epoch s.engine.rows s.member.ownStation).2 else []))))

/-- The receiver follows the line in a slot and in a round in progress: sync found, coding broken, slot end at its
time. Nothing else changes (R67, R111; what it is between slots and after a broken coding in a round is log 12's). -/
def Obligations.ReceiverFollowsLine : Prop :=
  ∀ s : State, s.timer.markSeen = true → s.member.selfState ≠ .lockout →
    ((∃ k, s.timer.position = .slot k) ∨ (∃ j, s.timer.position = .round j) ∧ s.timer.roundOpen = true →
      s.line.receiver = .searching → exec .syncFound s = .next { s with line.receiver := .receiving }) ∧
    ((∃ k, s.timer.position = .slot k) → s.line.receiver = .receiving →
      exec .codingBroken s = .next { s with line.receiver := .searching }) ∧
    ((∃ j, s.timer.position = .round j) → s.timer.roundOpen = true → s.line.receiver = .receiving →
      exec .codingBroken s = .next { s with line.receiver := .settled }) ∧
    (∀ k, s.timer.position = .slot k → (∃ o ∈ s.timer.origin, o + (16 + 144 * (k.toNat + 1) : Nat) ≤ s.clock) →
      exec (.slotEnd k) s = .next { s with line.receiver := .off })

/-! ## Close and admission -/

/-- At close, at or after its time, the heard set is the set of stations whose records are valid, the four counts are
those of the buffer, and the buffer, the outcome and the Sensor Interface's sample are kept; the position is GAP, or
NONE when the close ends in LOCKOUT. Pages, clock, measured length, self-marked flag and conditions are kept, the
Notice Queue too unless the close ends in LOCKOUT, and the emulator unless LOCKOUT aborts PULSE there. A close that
enters no other self state, or ACTIVE, changes nothing of the Epoch Timer but position and epoch number, and leaves the
rest of the Line Controller, the whole Sensor Interface, the faults and the tests as they were (R51, R52, R71, R73 to
R75; that the receiver is OFF after it is log 12's deduction). -/
def Obligations.CloseLatchesHeardSetAndCounts : Prop :=
  ∀ s : State, s.timer.markSeen = true → s.member.selfState ≠ .lockout →
    (∃ o ∈ s.timer.origin, o + (16 + 144 * s.plan.n : Nat) ≤ s.clock) →
    (s.timer.position = .mark ∨ ∃ k, s.timer.position = .slot k) → s.line.buffer.length = 16 →
    ∃ t, exec .close s = .next t ∧
      (∀ k : Station, t.line.heard.getLsbD k.toNat = true ↔ ∃ f, s.line.buffer[k.toNat]? = some (.valid f)) ∧
      t.line.counts = ⟨s.line.buffer.count (.invalid .badCheck), s.line.buffer.count (.invalid .plan),
        s.line.buffer.count (.invalid .slot), s.line.buffer.count (.invalid .own)⟩ ∧
      t.line.buffer = s.line.buffer ∧ t.line.outcome = s.line.outcome ∧ t.line.receiver = .off ∧
      t.sensor.sample = s.sensor.sample ∧ t.store = s.store ∧ t.timer.origin = s.timer.origin ∧
      t.timer.position = (if t.member.selfState = .lockout then .none else .gap) ∧
      (t.member.selfState ≠ .lockout ∨ s.tests.runs .pulse = false → t.emulator = s.emulator) ∧
      t.clock = s.clock ∧ t.timer.plan = s.timer.plan ∧ t.timer.markSeen = true ∧
      t.timer.epochLength = s.timer.epochLength ∧ t.timer.selfMarked = s.timer.selfMarked ∧
      t.sensor.evaluated = s.sensor.evaluated ∧ t.sensor.prevLatch = s.sensor.prevLatch ∧
      t.sensor.underTest = s.sensor.underTest ∧ t.line.sending = s.line.sending ∧
      (t.member.selfState ≠ .lockout →
        t.line.notices = s.line.notices ∧ t.line.noticeSend = s.line.noticeSend ∧
          t.timer.roundOpen = s.timer.roundOpen ∧ t.line.awaiting = s.line.awaiting) ∧
      (t.member.selfState = s.member.selfState ∨ t.member.selfState = .active →
        t.timer = { s.timer with position := .gap, epoch := t.timer.epoch } ∧
        t.line = { s.line with receiver := .off, heard := t.line.heard, counts := t.line.counts } ∧
        t.sensor = s.sensor ∧ t.faults = s.faults ∧ t.tests = s.tests)

/-- The epoch majority rule. The epoch number after a close is carried by as many as any value is: each valid record
carries its own, and the own station carries the own number when the outcome handed over is SENT, as it is in JOINING,
ACTIVE and LEAVING for a frame completed in this epoch, but for one completed in LEAVING after the change of state,
where R71 and R72 disagree and it is free (log 37), and never in LISTEN and WITHDRAWN; among values of the greatest
count, the lowest carrier's wins. With nothing counted the number is kept (R71, R72, R82, R83). -/
def Obligations.CloseAdoptsMajorityEpoch : Prop :=
  ∀ s : State, s.timer.markSeen = true → s.member.selfState ≠ .lockout →
    (∃ o ∈ s.timer.origin, o + (16 + 144 * s.plan.n : Nat) ≤ s.clock) →
    (s.timer.position = .mark ∨ ∃ k, s.timer.position = .slot k) →
    (∀ f, s.line.record s.member.ownStation ≠ .valid f) →
    ∃ handed : Bool,
    (handed = true → s.line.outcome = .sent ∧
      (s.member.selfState = .joining ∨ s.member.selfState = .active ∨ s.member.selfState = .leaving)) ∧
    (s.line.outcome = .sent → (s.member.selfState = .joining ∨ s.member.selfState = .active ∨
      s.member.selfState = .leaving ∧ s.line.sentLate = false) → handed = true) ∧
    let carries : Station → Option Epoch := fun k =>
      if k = s.member.ownStation then (if handed = true then some s.timer.epoch else none)
      else (s.line.record k).frame?.map FrameRecord.epoch
    let count : Epoch → Nat := fun e => (allStations.filter fun k => carries k = some e).length
    ∃ t, exec .close s = .next t ∧
      ((∀ k, carries k = none) → t.timer.epoch = s.timer.epoch) ∧
      (∀ k e, carries k = some e → count e ≤ count t.timer.epoch ∧
        (count e = count t.timer.epoch → ∃ w, carries w = some t.timer.epoch ∧ w.toNat ≤ k.toNat))

/-- The Peer Table, the bind claims and the Axis Table at a close. An entry below N other than the own goes by Table
5-6 when its slot holds an admitted frame, whose axis, state, flags, heard set and epoch it then shows, an axis change
clearing the bound flag of a bound peer and the refused flag of an unbound one, and by Table 5-7 when it holds none;
the own entry and those at or above N are kept. A bound peer that is lost or changes its axis is unbound. PEER_JOINED,
PEER_LOST and the ROW_STATE of a row that the unbind leaves without sources are appended in ascending station order,
ROW_STATE after the PEER_LOST of its station. Unless the close ends in LISTEN or LOCKOUT, every peer that is then
PRESENT or SILENT without the bound flag, and the own station in JOINING and ACTIVE without the own bound flag, claims
its axis in ascending station order: it is bound, with its refused flag clear, as long as the row has room for it and
the lower-numbered claimants, and else refused, the row being full, with ROW_STATE where the row had no source, and
SOURCE_REFUSED where the refused flag was clear, in that order; the flags of all others stay. A row keeps its value,
hold age and STALE flag and its other sources with standing and runs; a new source has runs 0, VOTING where the row had
no VOTING source and CANDIDATE otherwise; its state is UNBOUND without sources, LOST where its sources are all new, and
else as it was (samples are said with the delivery). The four lists are the records of steps 1 to 4 of admission. Of a
close that clears the table (R95) the records alone are said here (R9 to R12, R81, R83 to R87, R101). -/
def Obligations.CloseUpdatesPeers : Prop :=
  ∀ s : State, s.timer.markSeen = true → s.member.selfState ≠ .lockout →
    (∃ o ∈ s.timer.origin, o + (16 + 144 * s.plan.n : Nat) ≤ s.clock) →
    (s.timer.position = .mark ∨ ∃ j, s.timer.position = .slot j) →
    s.tableSound → s.peersSound → s.listedSound →
    ∃ t r1 r2 r3 r4, exec .close s = .next t ∧ t.port = s.port.appendAll (r1 ++ r2 ++ r3 ++ r4) ∧
      let own := s.member.ownStation
      let heard : Station → Option FrameRecord := fun k => match s.line.record k with
        | .valid f => if f.epoch = t.timer.epoch then some f else none
        | .empty | .invalid _ => none
      let advanced : PeerEntry → Option FrameRecord → PeerEntry := fun p frame => match frame with
        | some f =>
          let moved := (p.state = .present ∨ p.state = .silent) ∧ p.axis ≠ f.axis
          { p with
            state := if p.state = .absent then .new else .present
            heardRun := if p.state = .absent then 1 else if p.state = .new then 0 else p.heardRun
            missRun := if p.state = .present ∨ p.state = .silent then 0 else p.missRun
            axis := f.axis, frameState := f.state, flags := f.flags, heard := f.heard, lastEpoch := f.epoch
            bound := if moved then false else p.bound
            refused := if moved ∧ p.bound = false then false else p.refused }
        | none => match p.state with
          | .absent => p
          | .present => { p with state := .silent, missRun := 1 }
          | .new | .silent =>
            if p.state = .silent ∧ p.missRun < 3 then { p with missRun := p.missRun + 1 }
            else { p with state := .absent, heardRun := 0, missRun := 0, bound := false, refused := false,
                          reported := 0, testReport := none }
      let entry : Station → PeerEntry := fun k =>
        if k = own ∨ s.plan.n ≤ k.toNat then s.member.peer k else advanced (s.member.peer k) (heard k)
      let wants : Station → Option Axis := fun k =>
        if t.member.selfState = .listen ∨ t.member.selfState = .lockout then none
        else if k = own then
          (if (t.member.selfState = .joining ∨ t.member.selfState = .active) ∧ s.member.ownBound = false
            then some s.member.ownAxis else none)
        else if ((entry k).state = .present ∨ (entry k).state = .silent) ∧ (entry k).bound = false
          then some (entry k).axis else none
      let bound : Station → Bool := fun k => if k = own then t.member.ownBound else (t.member.peer k).bound
      let refused : Station → Bool := fun k => if k = own then t.member.ownRefused else (t.member.peer k).refused
      let wasRefused : Station → Bool := fun k => if k = own then s.member.ownRefused else (entry k).refused
      let rows : Axis → Row := rowOf s.engine.rows
      let removed : Station → Bool := fun k => k != own && decide (k.toNat < s.plan.n) && (s.member.peer k).bound &&
        match heard k with
        | some f => (s.member.peer k).axis != f.axis
        | none => (s.member.peer k).state == .silent && decide (3 ≤ (s.member.peer k).missRun)
      let kept : Axis → List Source := fun a => (rows a).sources.filter fun x => !removed x.station
      let claimedBefore : Axis → Station → Bool := fun a k =>
        allStations.any fun j => decide (j.toNat < k.toNat) && wants j == some a
      let sources : Axis → List Source := fun a => allStations.filterMap fun k =>
        match (rows a).sources.find? fun x => x.station == k with
        | some x => if removed k then none else some x
        | none => if wants k = some a ∧ bound k = true
          then some ⟨k, if (kept a).any (fun x => x.standing == .voting) || claimedBefore a k
            then .candidate else .voting, 0, 0, none⟩ else none
      (∀ e ∈ r1 ++ r3, e.kind ∉ [EventKind.peerJoined, .peerLost, .sourceRefused]) ∧
      r2 = (allStations.flatMap fun k =>
        let a := (s.member.peer k).axis
        let unbound := if removed k && (rows a).sources.all fun x => removed x.station && decide (x.station.toNat ≤ k.toNat)
          then [evRowState t.timer.epoch a.toNat .unbound (rows a).stale] else []
        if k = own ∨ s.plan.n ≤ k.toNat then [] else match heard k with
          | some f => unbound ++ if (s.member.peer k).state = .new
            then [⟨.peerJoined, t.timer.epoch, some k, some f.axis, none⟩] else []
          | none => (if (s.member.peer k).state = .silent ∧ 3 ≤ (s.member.peer k).missRun
            then [⟨.peerLost, t.timer.epoch, some k, none, none⟩] else []) ++ unbound) ∧
      r4 = (allStations.flatMap fun k => match wants k with
        | some a => if bound k = true
          then (if kept a = [] ∧ claimedBefore a k = false
            then [evRowState t.timer.epoch a.toNat .lost (rows a).stale] else [])
          else if wasRefused k = false then [⟨.sourceRefused, t.timer.epoch, some k, some a, none⟩] else []
        | none => []) ∧
      (t.member.selfState ≠ .listen ∨ s.member.selfState = .listen →
        (∀ k, t.member.peer k =
          { entry k with bound := (t.member.peer k).bound, refused := (t.member.peer k).refused }) ∧
        (∀ k, k ≠ own → wants k = none →
          (t.member.peer k).bound = (entry k).bound ∧ (t.member.peer k).refused = (entry k).refused) ∧
        (wants own = none → t.member.selfState ≠ .lockout →
          t.member.ownBound = s.member.ownBound ∧ t.member.ownRefused = s.member.ownRefused) ∧
        (∀ k a, wants k = some a →
          (rowOf t.engine.rows a).has k = bound k ∧
          (bound k = true → refused k = false ∧
            ∀ j, j.toNat < k.toNat → wants j = some a → bound j = true) ∧
          (bound k = false → refused k = true ∧ (rowOf t.engine.rows a).sources.length = 3)) ∧
        ∀ a : Axis,
          (rowOf t.engine.rows a).sources.map (fun x => { x with sample := none }) =
            (sources a).map (fun x => { x with sample := none }) ∧
          (t.member.selfState = .listen ∨ t.member.selfState = .lockout → (rowOf t.engine.rows a).sources = sources a) ∧
          (rowOf t.engine.rows a).value = (rows a).value ∧ (rowOf t.engine.rows a).holdAge = (rows a).holdAge ∧
          (rowOf t.engine.rows a).stale = (rows a).stale ∧
          (rowOf t.engine.rows a).state =
            if sources a = [] then .unbound else if kept a = [] then .lost else (rows a).state)

/-- The self state after a close, its records, and the delivery. ACTIVE enters JOINING by an adoption, with RESYNC and
STATION_STATE (R83, R92), and falls to LISTEN by TX_UNHEARD at its fourth unheard close (R94, R95); JOINING becomes
ACTIVE at the third run of its join tests or falls to LISTEN by JOIN_FAILED at the sixteenth count (R93, R95); LISTEN
enters JOINING at its second heard close (R90, R92) and LOCKOUT with PLAN_MISMATCH at its eighth plan-mismatch close in
a row (R91, R100); LEAVING and WITHDRAWN are kept. The four lists are the records of steps 1 to 4, in this order (R80,
R81). A close that ends in JOINING, ACTIVE, LEAVING or WITHDRAWN starts a vote on a copy of the table with the close's
epoch number: every source of a row holds the sample of its admitted frame where that frame names the row's axis,
usable when the frame says ACTIVE with no flag, the own station in JOINING or ACTIVE the own sample, usable by R102
with the TEST flag as log 13 deduces it, and any other source none; a close that ends in LISTEN or LOCKOUT starts none
(R7, R8, R19, R81, R102). -/
def Obligations.CloseStartsVote : Prop :=
  ∀ s : State, s.timer.markSeen = true → s.member.selfState ≠ .lockout →
    (∃ o ∈ s.timer.origin, o + (16 + 144 * s.plan.n : Nat) ≤ s.clock) →
    (s.timer.position = .mark ∨ ∃ k, s.timer.position = .slot k) → s.engine.vote = none →
    s.tableSound → s.peersSound → s.listedSound → (∀ f, s.line.record s.member.ownStation ≠ .valid f) →
    ∃ t r1 r2 r3 r4, exec .close s = .next t ∧ t.port = s.port.appendAll (r1 ++ r2 ++ r3 ++ r4) ∧
      let own := s.member.ownStation
      let adopted := t.timer.epoch ≠ s.timer.epoch
      let heard : Station → FrameRecord → Prop := fun k f => s.line.record k = .valid f ∧ f.epoch = t.timer.epoch
      let present : Station → FrameRecord → Prop := fun k f => heard k f ∧ (s.member.peer k).state ≠ .absent
      let known := ∃ k f, present k f ∧ f.heard.getLsbD own.toNat = true
      let mismatch := (.invalid .plan) ∈ s.line.buffer ∧
        ∀ r ∈ s.line.buffer, r ≠ .invalid .slot ∧ r ≠ .invalid .own ∧ ∀ f, r ≠ .valid f
      let aborted : AbortReason → List EventRecord := fun why => match s.tests.running with
        | some r => if why ≠ .state ∨ r.code = .inject ∨ r.code = .monitor
          then [evTestDone t.timer.epoch r.code (.aborted why)] else []
        | none => []
      let joins := t.member.selfState = .joining ∧ t.member.joinRun = 0 ∧ t.member.joinEpochs = 0 ∧
        t.sensor.conv = .acquire ∧ t.sensor.acqCount = 0 ∧ t.sensor.window = [] ∧
        t.sensor.excitation = s.timer.origin ∧
        ∀ r ∈ s.tests.running, (r.code = .inject ∨ r.code = .monitor) →
          t.tests = ⟨none, some ⟨r.code, .aborted .state, some t.timer.epoch⟩⟩
      let falls := t.member = { s.member with
          selfState := .listen, listenRun := 0, mismatchRun := 0, joinRun := 0, joinEpochs := 0, unheardRun := 0
          ownBound := false, ownRefused := false, peers := List.replicate 16 PeerEntry.cleared } ∧
        t.engine.rows = List.replicate 8 Row.cleared ∧ t.timer.deadline = none ∧ t.timer.listenTimer = 0
      (∀ e ∈ r2, e.kind ∈ [EventKind.peerJoined, .peerLost, .rowState]) ∧
      (∀ e ∈ r4, e.kind ∈ [EventKind.sourceRefused, .rowState]) ∧
      (¬adopted → r1 = []) ∧
      (adopted → s.member.selfState ≠ .active → r1 = [evPlain .resync t.timer.epoch]) ∧
      (s.member.selfState = .active →
        (adopted → joins ∧ r3 = [] ∧
          r1 = evPlain .resync t.timer.epoch :: evStationState t.timer.epoch .joining :: aborted .state) ∧
        (¬adopted → (s.line.outcome ≠ .sent ∨ ∀ k f, ¬present k f) →
          t.member.selfState = .active ∧ t.member.unheardRun = s.member.unheardRun ∧ r3 = []) ∧
        (¬adopted → s.line.outcome = .sent → known →
          t.member.selfState = .active ∧ t.member.unheardRun = 0 ∧ r3 = []) ∧
        (¬adopted → s.line.outcome = .sent → (∃ k f, present k f) → ¬known →
          (s.member.unheardRun < 3 →
            t.member.selfState = .active ∧ t.member.unheardRun = s.member.unheardRun + 1 ∧ r3 = []) ∧
          (3 ≤ s.member.unheardRun → falls ∧ t.faults = ⟨s.faults.held ||| 0b0001000000#10, true⟩ ∧
            r3 = (if s.faults.held.getLsbD 6 then [] else [evFaultHeld t.timer.epoch .txUnheard])
              ++ [evStationState t.timer.epoch .listen]))) ∧
      (s.member.selfState = .joining →
        (s.line.outcome ≠ .sent → t.member.selfState = .joining ∧ t.member.joinRun = s.member.joinRun ∧
          t.member.joinEpochs = s.member.joinEpochs ∧ r3 = []) ∧
        (s.line.outcome = .sent → ∃ run,
          (¬adopted ∧ (known ∨ ∀ k f, ¬heard k f) → run = s.member.joinRun + 1) ∧
          (adopted ∨ ¬known ∧ (∃ k f, heard k f) → run = 0) ∧
          (3 ≤ run → t.member.selfState = .active ∧ t.member.unheardRun = 0 ∧
            r3 = [evStationState t.timer.epoch .active]) ∧
          (run < 3 → 15 ≤ s.member.joinEpochs → falls ∧
            r3 = [evPlain .joinFailed t.timer.epoch, evStationState t.timer.epoch .listen]) ∧
          (run < 3 → s.member.joinEpochs < 15 → t.member.selfState = .joining ∧ t.member.joinRun = run ∧
            t.member.joinEpochs = s.member.joinEpochs + 1 ∧ r3 = []))) ∧
      (s.member.selfState = .listen →
        (mismatch → 7 ≤ s.member.mismatchRun → t.member.selfState = .lockout ∧ t.timer.deadline = none ∧
          t.faults = ⟨s.faults.held ||| 0b0100000000#10, true⟩ ∧
          r3 = (if s.faults.held.getLsbD 8 then [] else [evFaultHeld t.timer.epoch .planMismatch])
            ++ evStationState t.timer.epoch .lockout :: aborted .lockout) ∧
        (mismatch → s.member.mismatchRun < 7 → t.member.selfState = .listen ∧ t.member.listenRun = 0 ∧
          t.member.mismatchRun = s.member.mismatchRun + 1 ∧ r3 = []) ∧
        (¬mismatch → (∀ k f, ¬heard k f) →
          t.member.selfState = .listen ∧ t.member.listenRun = 0 ∧ t.member.mismatchRun = 0 ∧ r3 = []) ∧
        ((∃ k f, heard k f) → (s.member.listenRun ≠ 1 ∨ adopted) →
          t.member.selfState = .listen ∧ t.member.listenRun = 1 ∧ t.member.mismatchRun = 0 ∧ r3 = []) ∧
        ((∃ k f, heard k f) → s.member.listenRun = 1 → ¬adopted →
          joins ∧ t.member.listenRun = 0 ∧ t.member.mismatchRun = 0 ∧
            r3 = evStationState t.timer.epoch .joining :: aborted .state)) ∧
      ((s.member.selfState = .leaving ∨ s.member.selfState = .withdrawn) →
        t.member.selfState = s.member.selfState ∧ r3 = []) ∧
      ((t.member.selfState ≠ .listen ∧ t.member.selfState ≠ .lockout) →
        t.engine.vote = some ⟨t.engine.rows, t.timer.epoch, s.clock, t.tests.runs .vote⟩ ∧
        ∀ a : Axis, ∀ src ∈ (rowOf t.engine.rows a).sources,
          (src.station ≠ own → ∀ f, heard src.station f → f.axis = a →
            src.sample = some ⟨f.angle, f.velocity, f.state == .active && f.flags == ⟨false, false, false⟩⟩) ∧
          (src.station ≠ own → (∀ f, heard src.station f → f.axis ≠ a) → src.sample = none) ∧
          (src.station = own → (t.member.selfState = .joining ∨ t.member.selfState = .active) →
            a = s.member.ownAxis → src.sample = some ⟨s.sensor.sample.angle, s.sensor.sample.velocity,
              s.member.selfState == .active && t.member.selfState == .active && !s.sensor.underTest
                && !s.sensor.sample.settling && !s.sensor.sample.sensorFault⟩) ∧
          (src.station = own → ((t.member.selfState ≠ .joining ∧ t.member.selfState ≠ .active) ∨
            a ≠ s.member.ownAxis) → src.sample = none)) ∧
      (t.member.selfState = .listen ∨ t.member.selfState = .lockout → t.engine.vote = none ∧ r4 = [])

/-! ## The Axis Table and the vote -/

/-- A bind claim of station k into a row of the table that R2 to R4 and R13 describe: ALREADY for a source of the row,
and nothing changes; otherwise k leaves any other row, which keeps its other records, its value, hold age and STALE
flag, and its state, unless k was its last source: then it is UNBOUND, with ROW_STATE. Then the row takes k with runs 0
and no sample, VOTING if the row has no VOTING source and CANDIDATE otherwise, where it has fewer than three sources
(BOUND; an UNBOUND row becomes LOST, with ROW_STATE), or refuses it (REFUSED, with one SOURCE_REFUSED unless the
claim's refused flag is set). No other row changes but for k's leaving it, and no other record is appended (R2, R10 to
R12). -/
def Obligations.BindClaimIsAnswered : Prop :=
  ∀ (e : Epoch) (p : Plan) (rows : List Row) (k : Station) (axis : Axis) (refused : Bool), rows.length = 8 →
    (∀ r ∈ rows, r.sound p ∧ r.consistent) → boundOnce rows →
    let r := rowOf rows axis
    let out := bindRows e rows k axis refused
    let r' := rowOf out.1 axis
    let others : Row → List Source := fun q => q.sources.filter fun src => src.station ≠ k
    let left : List EventRecord := (List.range 8).flatMap fun a =>
      let q := rows.getD a Row.cleared
      if q.has k = true ∧ others q = [] then [evRowState e a .unbound q.stale] else []
    (r.has k = true → out = (rows, .already, [])) ∧
    (r.has k = false → r.sources.length < 3 →
      out.2.1 = .bound ∧ r'.sources.length = r.sources.length + 1 ∧ others r' = r.sources ∧
      (⟨k, if r.hasVoting then .candidate else .voting, 0, 0, none⟩ : Source) ∈ r'.sources ∧
      r'.state = (if r.sources = [] then .lost else r.state) ∧ r'.value = r.value ∧
      r'.holdAge = r.holdAge ∧ r'.stale = r.stale ∧
      out.2.2 = left ++ if r.sources = [] then [evRowState e axis.toNat .lost r.stale] else []) ∧
    (r.has k = false → r.sources.length = 3 →
      out.2.1 = .refused ∧ r' = r ∧
      out.2.2 = left ++ if refused then [] else [evStationAxis .sourceRefused e k axis]) ∧
    (∀ a : Axis, a ≠ axis → r.has k = false →
      let q := rowOf rows a
      rowOf out.1 a = { q with
        sources := others q
        state := if q.has k = true ∧ others q = [] then .unbound else q.state }) ∧
    (∀ q ∈ out.1, q.sound p ∧ q.consistent) ∧ boundOnce out.1

/-- An unbind claim: the record of the station leaves its row; the records that remain keep their order, standings,
runs and samples, and every row its value, hold age and STALE flag. A row left with no source becomes UNBOUND, with one
ROW_STATE; any other row keeps its state. Nothing changes where the station is a source of no row. -/
def Obligations.UnbindClaimRemovesRecord : Prop :=
  ∀ (e : Epoch) (rows : List Row) (k : Station), rows.length = 8 → boundOnce rows →
    let out := unbindRows e rows k
    out.1.length = 8 ∧
    (∀ a : Axis,
      (rowOf out.1 a).sources = (rowOf rows a).sources.filter (fun src => src.station ≠ k) ∧
      (rowOf out.1 a).value = (rowOf rows a).value ∧ (rowOf out.1 a).holdAge = (rowOf rows a).holdAge ∧
      (rowOf out.1 a).stale = (rowOf rows a).stale ∧
      ((rowOf rows a).has k = true → (rowOf out.1 a).sources = [] →
        (rowOf out.1 a).state = .unbound ∧ out.2 = [evRowState e a.toNat .unbound (rowOf rows a).stale]) ∧
      ((rowOf rows a).has k = true → (rowOf out.1 a).sources ≠ [] →
        (rowOf out.1 a).state = (rowOf rows a).state ∧ out.2 = []) ∧
      ((rowOf rows a).has k = false → rowOf out.1 a = rowOf rows a)) ∧
    ((∀ a : Axis, (rowOf rows a).has k = false) → out = (rows, []))

/-- VOTE_COMPLETION. With a vote in flight, in the table every source has the standing and runs that the vote gave the
source of its station, a source the vote does not know its own, and every row its value, hold age and STALE flag,
UNBOUND without sources and LOST where sources came to a row the vote left UNBOUND; no vote is in flight. In JOINING,
ACTIVE, LEAVING and WITHDRAWN the page of the vote becomes FRONT with the header of R136, the page that was FRONT
enters the spare order as its latest member, the earliest of that order that is not pinned becomes FILL with its valid
flag clear and leaves the order, the pin stays and EPS rises; the emulator takes the own axis's row of the new page. In
LISTEN and LOCKOUT no publication is made: pages, roles, EPS and emulator stay. Members, timer, sensor, clock, and with
no VOTE test line, faults and tests, are unchanged. With no vote in flight nothing changes (R15, R19, R22, R39 to R41,
R135 to R138, R162; that nothing changes then is log 1's choice, and that a vote in flight at an entry to LOCKOUT is
written back and not published log 36's). -/
def Obligations.VoteCompletionPublishes : Prop :=
  (∀ s : State, s.engine.vote = none → exec .voteCompletion s = .next s) ∧
  ∀ (s : State) (v : VoteInFlight), s.engine.vote = some v → s.rolesSound →
    s.engine.rows.length = 8 → v.rows.length = 8 →
    ∃ t, exec .voteCompletion s = .next t ∧
      (s.member.selfState = .listen ∨ s.member.selfState = .lockout →
        t.store = s.store ∧ t.emulator = s.emulator) ∧
      (s.member.selfState ≠ .listen → s.member.selfState ≠ .lockout →
        t.store.front = some s.store.fill ∧
        (t.store.page s.store.fill).valid = true ∧ (t.store.page s.store.fill).epoch = v.epoch ∧
        (t.store.page s.store.fill).selfMarked = s.timer.selfMarked ∧
        (t.store.page s.store.fill).selfState = s.member.selfState ∧
        (t.store.page s.store.fill).live = s.sensor.live ∧ (t.store.page s.store.fill).held = s.faults.held ∧
        (∀ k : Station, (t.store.page s.store.fill).presentSet.getLsbD k.toNat = true ↔
          ((s.member.peer k).state = .present ∨ (s.member.peer k).state = .silent ∨
            k = s.member.ownStation ∧ (s.member.selfState = .joining ∨ s.member.selfState = .active))) ∧
        (∀ a : Axis, (t.store.page s.store.fill).rows[a.toNat]? =
          some ((rowOf v.rows a).vote s.plan v.epoch).1.pageRow) ∧
        ((s.store.spare ++ s.store.front.toList).find? fun p => s.store.pin.map Pin.page ≠ some p) =
          some t.store.fill ∧
        t.store.spare = (s.store.spare ++ s.store.front.toList).filter (fun p => p ≠ t.store.fill) ∧
        t.store.fill ≠ s.store.fill ∧ t.store.pin = s.store.pin ∧
        (∀ p ∈ t.store.pin, p.page ≠ t.store.fill) ∧ (t.store.page t.store.fill).valid = false ∧
        (∀ p : PageNumber, p ≠ s.store.fill → p ≠ t.store.fill → t.store.page p = s.store.page p) ∧
        t.store.eps = some s.clock ∧
        t.emulator = s.emulator.publish
          ((rowOf v.rows s.member.ownAxis).vote s.plan v.epoch).1.pageRow s.clock) ∧
      t.engine.vote = none ∧
      (∀ a : Axis,
        let voted := ((rowOf v.rows a).vote s.plan v.epoch).1
        (rowOf t.engine.rows a).sources = ((rowOf s.engine.rows a).sources.map fun src =>
          match voted.sources.find? fun x => x.station == src.station with
          | some x => ⟨src.station, x.standing, x.disagreeRun, x.agreeRun, src.sample⟩
          | none => src) ∧
        (rowOf t.engine.rows a).value = voted.value ∧ (rowOf t.engine.rows a).holdAge = voted.holdAge ∧
        (rowOf t.engine.rows a).stale = voted.stale ∧
        (rowOf t.engine.rows a).state =
          (if (rowOf s.engine.rows a).sources = [] then .unbound
          else if voted.state = .unbound then .lost else voted.state)) ∧
      t.timer = s.timer ∧ t.member = s.member ∧ t.sensor = s.sensor ∧ t.clock = s.clock ∧
      (v.testRuns = false → t.line = s.line ∧ t.faults = s.faults ∧ t.tests = s.tests)

/-- The records of a vote completion stand in the order of R159, R21, R15 and R169: EMULATOR if the emulator's state
changes; then row by row ROW_REBUILT where a row with sources had no VOTING one, and in station order SOURCE_DIVERGED
of each source that leaves VOTING and SOURCE_READMITTED of each that comes to it; then ROW_STATE for each row whose
state or STALE flag the write-back changes, in ascending axis number; and last, where the VOTE self-test runs in this
vote, its TEST_DONE. That test ends with the vote and with PASS, since the model's vote meets all six cases of Table
10-4 under every plan (log 25); FAIL would carry the number of the first case not met (R167, R169). -/
def Obligations.VoteRecordsStandInOrder : Prop :=
  ∀ (s : State) (v : VoteInFlight), s.engine.vote = some v → s.engine.rows.length = 8 → v.rows.length = 8 →
    ∃ t emu src st done, exec .voteCompletion s = .next t ∧
      t.port = s.port.appendAll (emu ++ src ++ st ++ done) ∧
      emu = (if t.emulator.state = s.emulator.state then []
        else [evEmulator s.timer.epoch t.emulator.state]) ∧
      src = ((List.range 8).flatMap fun a =>
        let row := v.rows.getD a Row.cleared
        let rebuilt := row.sources ≠ [] ∧ ∀ x ∈ row.sources, x.standing ≠ .voting
        (if rebuilt then [⟨.rowRebuilt, s.timer.epoch, none, some (BitVec.ofNat 3 a), none⟩] else [])
          ++ (List.zipWith (fun (x y : Source) =>
              if y.standing = .diverged ∧ (x.standing = .voting ∨ rebuilt) then
                [(⟨.sourceDiverged, s.timer.epoch, some x.station, some (BitVec.ofNat 3 a), none⟩ : EventRecord)]
              else if y.standing = .voting ∧ x.standing ≠ .voting ∧ ¬rebuilt then
                [⟨.sourceReadmitted, s.timer.epoch, some x.station, some (BitVec.ofNat 3 a), none⟩]
              else []) row.sources (row.vote s.plan v.epoch).1.sources).flatten) ∧
      st = ((List.range 8).filter fun a =>
          decide ((s.engine.rows.getD a Row.cleared).state ≠ (t.engine.rows.getD a Row.cleared).state ∨
            (s.engine.rows.getD a Row.cleared).stale ≠ (t.engine.rows.getD a Row.cleared).stale)).map
        (fun a => evRowState s.timer.epoch a (t.engine.rows.getD a Row.cleared).state
          (t.engine.rows.getD a Row.cleared).stale) ∧
      (v.testRuns = false ∨ s.tests.runs .vote = false → done = [] ∧ t.tests = s.tests) ∧
      (v.testRuns = true → s.tests.runs .vote = true →
        t.tests = ⟨none, some ⟨.vote, .pass, some s.timer.epoch⟩⟩ ∧
          done = [evTestDone s.timer.epoch .vote .pass] ∧ t.faults = s.faults ∧ t.line = s.line) ∧
      (∀ n, voteTestOutcome s.plan = .fail n ↔
        ∃ c, (voteCases s.plan)[n - 1]? = some c ∧ 1 ≤ n ∧ shadowResult s.plan c.1 ≠ c.2 ∧
          ∀ b ∈ (voteCases s.plan).take (n - 1), shadowResult s.plan b.1 = b.2)

/-- A row that a vote leaves AGREED has an angle that lies within TOL, by circular difference, of at least two usable
samples that two of its sources held in that vote, and its value carries the vote's epoch (R38, of the vote itself). -/
def Obligations.AgreedAngleLiesWithinTolerance : Prop :=
  ∀ (code : PlanCode) (epoch : Epoch) (r : Row), stationsAscend r.sources → r.sources.length ≤ 3 →
    (r.vote (planTable code) epoch).1.state = .agreed →
    ∃ a ∈ r.sources, ∃ b ∈ r.sources, ∃ x y v, a.station ≠ b.station ∧ a.sample = some x ∧ b.sample = some y ∧
      x.usable = true ∧ y.usable = true ∧ (r.vote (planTable code) epoch).1.value = some v ∧
      circMag x.angle v.angle ≤ (planTable code).tol ∧ circMag y.angle v.angle ≤ (planTable code).tol ∧
      v.epoch = epoch

/-- At stage 3 with u = 1, the row state is SINGLE and the result is fresh; the value's angle and velocity are those of
the one usable VOTING sample, and the used set is that sample's station; no disagree run and no standing of a VOTING
source changes. -/
def Obligations.OneSampleIsSingle : Prop :=
  ∀ (plan : Plan) (r : Row) (src : Source) (x : SourceSample), src ∈ r.sources → src.standing = .voting →
    src.sample = some x → x.usable = true → stationsAscend r.sources →
    (∀ q ∈ r.sources, q.standing = .voting → q.station ≠ src.station → ∀ y, q.sample = some y → y.usable = false) →
    (r.verdict plan.tol).state = .single ∧
    (r.verdict plan.tol).fresh = some (x.angle, x.velocity, stationBit src.station) ∧
    ∀ q ∈ r.sources, q.standing = .voting → q.score plan (r.verdict plan.tol) = (q, [])

/-- At stage 3 with u = 2, samples of stations a below b: within TOL the row is AGREED at the midpoint, the angle
reference plus floor(d/2), the velocity floor((v1 + v2)/2), the used set the two stations, and both disagree runs
become 0; beyond TOL it is SPLIT and held, and no run and no standing changes (R29, R30). -/
def Obligations.TwoSamplesMeetOrSplit : Prop :=
  ∀ (plan : Plan) (r : Row) (a b : VoteSample), r.usableVoting = [a, b] → stationsAscend r.sources →
    (circMag b.angle a.angle ≤ plan.tol →
      (r.verdict plan.tol).state = .agreed ∧
      (r.verdict plan.tol).fresh = some (a.angle + BitVec.ofInt 16 ((b.angle - a.angle).toInt / 2),
        BitVec.ofInt 16 ((a.velocity.toInt + b.velocity.toInt) / 2), stationBit a.station ||| stationBit b.station) ∧
      ∀ q ∈ r.sources, q.standing = .voting →
        q.score plan (r.verdict plan.tol) =
          if q.station = a.station ∨ q.station = b.station then ({ q with disagreeRun := 0 }, []) else (q, [])) ∧
    (plan.tol < circMag b.angle a.angle →
      (r.verdict plan.tol).state = .split ∧ (r.verdict plan.tol).fresh = none ∧
      ∀ q ∈ r.sources, q.score plan (r.verdict plan.tol) = (q, []))

/-- At stage 3 with u = 3, samples a, b, c in station order, the median is the second sample by circular offset from
the lowest-numbered one, equal offsets by station. Where another sample lies within TOL of it, the row is AGREED at the
median, the used set is the stations within TOL, whose disagree runs become 0, and a station outside them is charged;
else the other two decide: AGREED at their midpoint with their runs 0 and the median's station charged, or SPLIT, which
keeps every run and standing (R25, R26, R28). What a charge does is said with R27. -/
def Obligations.ThreeSamplesTakeTheMedian : Prop :=
  ∀ (plan : Plan) (r : Row) (a b c : VoteSample), r.usableVoting = [a, b, c] → stationsAscend r.sources →
    let v := r.verdict plan.tol
    let tol := plan.tol
    a.station.toNat < b.station.toNat ∧ b.station.toNat < c.station.toNat ∧
    ∃ lo m hi, [lo, m, hi].Perm [a, b, c] ∧
      (circDiff lo.angle a.angle < circDiff m.angle a.angle ∨
        circDiff lo.angle a.angle = circDiff m.angle a.angle ∧ lo.station.toNat < m.station.toNat) ∧
      (circDiff m.angle a.angle < circDiff hi.angle a.angle ∨
        circDiff m.angle a.angle = circDiff hi.angle a.angle ∧ m.station.toNat < hi.station.toNat) ∧
      ((circMag lo.angle m.angle ≤ tol ∨ circMag hi.angle m.angle ≤ tol) →
        v.state = .agreed ∧
        (∃ used, v.fresh = some (m.angle, m.velocity, used) ∧
          ∀ k : Station, used.getLsbD k.toNat = true ↔
            ∃ x ∈ [a, b, c], x.station = k ∧ circMag x.angle m.angle ≤ tol) ∧
        (∀ k, v.outside = some k ↔ ∃ x ∈ [a, b, c], x.station = k ∧ tol < circMag x.angle m.angle) ∧
        (∀ q ∈ r.sources, (∃ x ∈ [a, b, c], x.station = q.station ∧ circMag x.angle m.angle ≤ tol) →
          q.score plan v = ({ q with disagreeRun := 0 }, []))) ∧
      (tol < circMag lo.angle m.angle → tol < circMag hi.angle m.angle →
        (circMag hi.angle lo.angle ≤ tol →
          v.state = .agreed ∧ v.outside = some m.station ∧
          (∃ x y, [x, y].Perm [lo, hi] ∧ x.station.toNat < y.station.toNat ∧
            v.fresh = some (midAngle x.angle y.angle, midVelocity x.velocity y.velocity,
              stationBit x.station ||| stationBit y.station)) ∧
          (∀ q ∈ r.sources, (q.station = lo.station ∨ q.station = hi.station) →
            q.score plan v = ({ q with disagreeRun := 0 }, []))) ∧
        (tol < circMag hi.angle lo.angle → v = ⟨.split, none, [], none⟩ ∧
          ∀ q ∈ r.sources, q.score plan v = (q, [])))

/-- At stage 4 a row whose result is fresh has its record rewritten whole, with the angle, velocity and used set that
stage 3 formed, after the rebuild of stage 1, and the vote's epoch, with hold age 0 and STALE clear; a row whose result
is held keeps its record as it was, and its hold age is increased by 1, saturating at 255, with STALE set at or above
the plan's limit and otherwise as it was. Fresh is AGREED or SINGLE, held is SPLIT, or LOST with sources and UNBOUND
without where no VOTING source has a usable sample (R32 to R34). -/
def Obligations.RowSettlesFreshOrHeld : Prop :=
  ∀ (code : PlanCode) (epoch : Epoch) (r : Row), r.holdAge ≤ 255 →
    let plan := planTable code
    let t := (r.vote plan epoch).1
    let formed := r.rebuild.1.verdict plan.tol
    t.state = formed.state ∧
    ((t.state = .agreed ∨ t.state = .single) ↔ formed.fresh ≠ none) ∧
    (∀ angle velocity used, formed.fresh = some (angle, velocity, used) →
      t.value = some ⟨angle, velocity, epoch, used⟩ ∧ t.holdAge = 0 ∧ t.stale = false) ∧
    (formed.fresh = none → t.value = r.value ∧ t.holdAge = min 255 (r.holdAge + 1) ∧
      t.stale = (r.stale || decide (plan.stale ≤ min 255 (r.holdAge + 1)))) ∧
    (r.rebuild.1.usableVoting = [] → formed.fresh = none ∧
      t.state = if r.sources = [] then .unbound else .lost)

/-- Stage 1 at a row, and stages 3 and 5 at one source. A row with sources and no VOTING one is rebuilt: every source
becomes VOTING with both runs 0, its sample, and the row's state, value, hold age and STALE flag are kept, and
ROW_REBUILT is collected; any other row is as it was (R23). A VOTING source outside an agreement has its disagree run
increased by 1 and becomes DIVERGED with agree run 0 and SOURCE_DIVERGED at DIV; a probation source judged against a
fresh value has its agree run increased by 1 or set to 0, and becomes VOTING with disagree run 0 and SOURCE_READMITTED
at READMIT; one that is not judged keeps everything. The sources a vote leaves are those of the rebuilt row in their
order, each as stages 3 and 5 leave it under the row's verdict, and its events are those of the rebuild and then
theirs; with no usable sample among the VOTING sources, every VOTING source keeps its run and standing (R20, R21, R24,
R27, R32, R35 to R37). -/
def Obligations.SourcesEarnAndLoseStanding : Prop :=
  (∀ r : Row,
    (r.sources ≠ [] → (∀ q ∈ r.sources, q.standing ≠ .voting) → r.rebuild = ({ r with
      sources := r.sources.map fun q => { q with standing := .voting, disagreeRun := 0, agreeRun := 0 } }, [.rebuilt])) ∧
    ((r.sources = [] ∨ ∃ q ∈ r.sources, q.standing = .voting) → r.rebuild = (r, []))) ∧
  (∀ (plan : Plan) (epoch : Epoch) (r : Row),
    let v := r.rebuild.1.verdict plan.tol
    (r.vote plan epoch).1.sources = r.rebuild.1.sources.map (fun q => (q.score plan v).1) ∧
    (r.vote plan epoch).2 = r.rebuild.2 ++ r.rebuild.1.sources.flatMap (fun q => (q.score plan v).2) ∧
    (r.rebuild.1.usableVoting = [] → ∀ q ∈ r.rebuild.1.sources, q.standing = .voting →
      q.score plan v = (q, []))) ∧
  ∀ (plan : Plan) (src : Source) (v : Verdict),
    (src.standing = .voting → src.station ∉ v.agreed → v.outside = some src.station →
      (src.disagreeRun + 1 < plan.div →
        src.score plan v = ({ src with disagreeRun := src.disagreeRun + 1 }, [])) ∧
      (src.disagreeRun + 1 = plan.div → src.score plan v =
        ({ src with standing := .diverged, disagreeRun := plan.div, agreeRun := 0 }, [.diverged src.station]))) ∧
    (src.standing ≠ .voting → (v.fresh = none ∨ ∀ x, src.sample = some x → x.usable = false) →
      src.score plan v = (src, [])) ∧
    (∀ x angle vel used, src.standing ≠ .voting → src.sample = some x → x.usable = true →
      v.fresh = some (angle, vel, used) →
      (plan.tol < circMag x.angle angle → src.score plan v = ({ src with agreeRun := 0 }, [])) ∧
      (circMag x.angle angle ≤ plan.tol → src.agreeRun + 1 < plan.readmit →
        src.score plan v = ({ src with agreeRun := src.agreeRun + 1 }, [])) ∧
      (circMag x.angle angle ≤ plan.tol → src.agreeRun + 1 = plan.readmit → src.score plan v =
        ({ src with standing := .voting, disagreeRun := 0, agreeRun := plan.readmit }, [.readmitted src.station])))

/-! ## Timed outputs -/

/-- EPS_PULSE_END takes EPS low and nothing else. EMISSION_EDGE at the instant of the next edge, the k-th of m at
floor(3P k / 4m) after the publication, or later, moves the counter by one count in the emission's direction, modulo C;
exactly one of ENCA and ENCB changes, ENCZ shows counter 0, and the emission ends at its last edge. An edge that comes
before that instant, as one of an emission that a publication has stopped, or with no emission moves nothing. Nothing
but the emulator changes (R137, R156 to R158; that an edge out of its time moves nothing is log 3's). -/
def Obligations.OutputsMoveByOneEdge : Prop :=
  (∀ s : State, exec .epsPulseEnd s = .next { s with store.eps := none }) ∧
  (∀ s : State, s.emulator.emission = none → exec .emissionEdge s = .next s) ∧
  (∀ (s : State) (em : Emission), s.emulator.emission = some em →
    s.clock < em.start + (3 * s.plan.period * (em.emitted + 1) / (4 * em.planned) : Nat) →
    exec .emissionEdge s = .next s) ∧
  (∀ (s : State) (em : Emission), s.emulatorSound → s.emulator.emission = some em →
    em.start + (3 * s.plan.period * (em.emitted + 1) / (4 * em.planned) : Nat) ≤ s.clock →
    (s.emulator.state = .follow ∨ s.emulator.state = .lagging) →
    ∃ e : PulseEmulator, exec .emissionEdge s = .next { s with emulator := e } ∧
      e.res = s.emulator.res ∧ e.state = s.emulator.state ∧ e.testHold = s.emulator.testHold ∧
      (em.up = true → e.counter = if s.emulator.counter + 1 = s.emulator.perTurn then 0 else s.emulator.counter + 1) ∧
      (em.up = false → e.counter = if s.emulator.counter = 0 then s.emulator.perTurn - 1 else s.emulator.counter - 1) ∧
      (e.enca ≠ s.emulator.enca ↔ e.encb = s.emulator.encb) ∧ (e.encz = true ↔ e.counter = 0) ∧
      (em.emitted + 1 < em.planned → e.emission = some { em with emitted := em.emitted + 1 }) ∧
      (em.emitted + 1 = em.planned → e.emission = none))

/-- A publication at an emulator without the test hold, by state and class of the row (Table 9-3): alignment from IDLE
at a fresh row; in FOLLOW and LAGGING a step at a fresh or held row and FROZEN at an unavailable one; FROZEN ends at a
fresh row alone. A step plans at most 512 edges in the direction of the count difference, and the counter moves at a
publication only by alignment; with the test hold the publication stops the emission alone (R154 to R156). -/
def Obligations.EmulatorTakesPublication : Prop :=
  ∀ (e : PulseEmulator) (row : PageRow) (now : Instant), e.counter < e.perTurn →
    let target := row.angle.toNat / (65536 / e.perTurn)
    let t := e.publish row now
    (e.testHold.isSome = true → t = { e with emission := none }) ∧
    (e.testHold = none →
      (row.cls = .fresh ↔ row.present = true ∧ row.stale = false ∧ row.holdAge = 0) ∧
      (row.cls = .unavailable ↔ row.present = false ∨ row.stale = true) ∧
      (e.state = .idle → row.cls = .fresh → t.state = .follow ∧ t.counter = target ∧ t.emission = none) ∧
      (e.state = .idle → row.cls ≠ .fresh → t = { e with emission := none }) ∧
      (e.state = .frozen → row.cls ≠ .fresh → t = { e with emission := none }) ∧
      ((e.state = .follow ∨ e.state = .lagging) → row.cls = .unavailable →
        t.state = .frozen ∧ t.counter = e.counter ∧ t.emission = none ∧ t.encz = false) ∧
      (((e.state = .follow ∨ e.state = .lagging) ∧ row.cls ≠ .unavailable ∨ e.state = .frozen ∧ row.cls = .fresh) →
        ∃ d : Int, -(e.perTurn / 2 : Int) ≤ d ∧ d < (e.perTurn / 2 : Int) ∧
          ((e.counter : Int) + d) % e.perTurn = target % e.perTurn ∧ t.counter = e.counter ∧
          (d = 0 → t.state = .follow ∧ t.emission = none) ∧
          (d ≠ 0 → d.natAbs ≤ 512 → t.state = .follow ∧ t.emission = some ⟨decide (0 < d), d.natAbs, 0, now⟩) ∧
          (512 < d.natAbs → t.state = .lagging ∧ t.emission = some ⟨decide (0 < d), 512, 0, now⟩)))

/-! ## The open window -/

/-- ROUND_BEGIN at or after its time, in a drawn schedule past the close with no round in progress and round j still to
come: a JOINING, ACTIVE or LEAVING station with notices pending offers the entry of the lowest kind code, fixes its
frame and marks the entry in flight; any other offers nothing. The receiver searches, and nothing else changes (R51,
R106, R111). -/
def Obligations.RoundOffersLowestKind : Prop :=
  ∀ (j : RoundNumber) (s : State), s.timer.markSeen = true → s.member.selfState ≠ .lockout →
    s.timer.roundOpen = false →
    (∃ o ∈ s.timer.origin, o + (16 + 144 * s.plan.n + 32 + 64 * j.toNat : Nat) ≤ s.clock) →
    (s.timer.position = .gap ∨ ∃ i : RoundNumber, s.timer.position = .round i ∧ i.toNat < j.toNat) →
    (∀ e ∈ s.line.notices, (∀ e' ∈ s.line.notices, e.kind.code ≤ e'.kind.code ∧ (e'.kind = e.kind → e' = e)) →
      (s.member.selfState = .joining ∨ s.member.selfState = .active ∨ s.member.selfState = .leaving) →
      exec (.roundBegin j) s = .next { s with
        timer.position := .round j
        timer.roundOpen := true
        line.receiver := .searching
        line.notices := s.line.notices.map fun e' => if e'.kind = e.kind then { e' with inFlight := true } else e'
        line.noticeSend := .sending (noticeFrame ⟨e.kind, s.member.ownStation, s.timer.plan, e.argument,
          s.timer.epoch.setWidth 8⟩) s.clock }) ∧
    ((s.line.notices = [] ∨ s.member.selfState = .listen ∨ s.member.selfState = .withdrawn) →
      exec (.roundBegin j) s = .next { s with
        timer.position := .round j
        timer.roundOpen := true
        line.receiver := .searching
        line.noticeSend := .idle })

/-- ROUND_END of the round in progress, at or after its time: in JOINING, ACTIVE and LEAVING every entry that was not
completed is aged by 1, the completed entry leaves, or stays with its replaced argument and age 0, and an entry that
reaches 32 is dropped; in the other states the queue is kept; the entries that stay keep the posting order, with both
flags clear. The records are STATION_STATE of a sent LEAVE that completes LEAVING, then NOTICE_EXPIRED of each dropped
entry in ascending kind code, with STATION_STATE directly after that of a LEAVE which completes LEAVING, and no other.
A LEAVE that leaves the queue takes a LEAVING station to WITHDRAWN, its deadline disarmed. Table, pages, sensor, faults
and epoch are unchanged (R97, R104, R108, R109; the order of the records is log 16's; that the receiver is OFF after it
is log 12's deduction). -/
def Obligations.RoundEndAgesQueue : Prop :=
  ∀ (j : RoundNumber) (s : State), s.timer.markSeen = true → s.member.selfState ≠ .lockout →
    s.timer.roundOpen = true → s.timer.position = .round j →
    (∃ o ∈ s.timer.origin, o + (16 + 144 * s.plan.n + 32 + 64 * (j.toNat + 1) : Nat) ≤ s.clock) →
    s.noticesSound → s.port.events.length ≤ 24 →
    (∀ e ∈ s.line.notices, e.replaced = true → e.inFlight = true) →
    let sends := s.member.selfState = .joining ∨ s.member.selfState = .active ∨ s.member.selfState = .leaving
    ∃ t new, exec (.roundEnd j) s = .next t ∧ t.port.events = s.port.events ++ new ∧
      t.timer.roundOpen = false ∧ t.timer.position = (if j = 3 then .idle else .round j) ∧
      t.line.receiver = .off ∧ t.line.noticeSend = .idle ∧
      t.line.notices = (s.line.notices.filterMap fun e =>
        if s.line.noticeSend = .completed ∧ e.inFlight = true
        then (if e.replaced = true then some ⟨e.kind, e.argument, 0, false, false⟩ else none)
        else if ¬sends then some ⟨e.kind, e.argument, e.rounds, false, false⟩
        else if e.rounds < 31 then some ⟨e.kind, e.argument, e.rounds + 1, false, false⟩ else none) ∧
      (let done : NoticeEntry → Prop := fun e => s.line.noticeSend = .completed ∧ e.inFlight = true
      let expires : NoticeKind → Prop := fun k => sends ∧ ∃ e ∈ s.line.notices, e.kind = k ∧ ¬done e ∧ e.rounds = 31
      let withdrawn : List EventRecord :=
        if s.member.selfState = .leaving then [evStationState s.timer.epoch .withdrawn] else []
      ∃ n1 n2 n3 n4 n5, new = n1 ++ n2 ++ n3 ++ n4 ++ n5 ∧
        ((∃ e ∈ s.line.notices, e.kind = .leave ∧ done e ∧ e.replaced = false) → n1 = withdrawn) ∧
        ((∀ e ∈ s.line.notices, e.kind = .leave → done e → e.replaced = true) → n1 = []) ∧
        (expires .leave → n2 = evNoticeExpired s.timer.epoch .leave :: withdrawn) ∧ (¬expires .leave → n2 = []) ∧
        (expires .fault → n3 = [evNoticeExpired s.timer.epoch .fault]) ∧ (¬expires .fault → n3 = []) ∧
        (expires .test → n4 = [evNoticeExpired s.timer.epoch .test]) ∧ (¬expires .test → n4 = []) ∧
        (expires .user → n5 = [evNoticeExpired s.timer.epoch .user]) ∧ (¬expires .user → n5 = [])) ∧
      ((s.member.selfState = .leaving ∧ (∃ e ∈ s.line.notices, e.kind = .leave) ∧
          ∀ e' ∈ t.line.notices, e'.kind ≠ .leave) →
        t.member = { s.member with selfState := .withdrawn } ∧ t.timer.deadline = none) ∧
      (¬(s.member.selfState = .leaving ∧ (∃ e ∈ s.line.notices, e.kind = .leave) ∧
          ∀ e' ∈ t.line.notices, e'.kind ≠ .leave) →
        t.member = s.member ∧ t.timer.deadline = s.timer.deadline) ∧
      t.engine = s.engine ∧ t.store = s.store ∧ t.sensor = s.sensor ∧ t.faults = s.faults ∧
      t.timer.epoch = s.timer.epoch ∧ t.tests = s.tests ∧ t.emulator = s.emulator

/-- A complete notice frame that fails a check of Table 6-3 changes nothing but the receiver; one under the own number
that passes is DUPLICATE_ID and LOCKOUT, with the effects and records of a judged collision: unbound, a test aborted,
STATION_STATE, FAULT_HELD, TEST_DONE and the unbind's ROW_STATE, in an order that R145 leaves open; clock, a vote in
flight, and what the abort does not end of the Sensor Interface and the Pulse Emulator are kept. Bits that do not open
with the notice sync, and a notice for a receiver that has found no sync in this round, change nothing (R100, R111 to
R113, R128, R170, R172; that the receiver is OFF in LOCKOUT is log 12's deduction). -/
def Obligations.NoticeIsDiscardedOrLocksOut : Prop :=
  ∀ (frame : BitVec 49) (s : State), s.timer.markSeen = true → s.member.selfState ≠ .lockout →
    s.timer.roundOpen = true → (s.line.noticeSend = .idle ∨ s.line.noticeSend = .lost) →
    (s.line.receiver ≠ .receiving ∨ frame.extractLsb' 41 8 ≠ 0x9B#8 → exec (.noticeReceived frame) s = .next s) ∧
    (s.line.receiver = .receiving → frame.extractLsb' 41 8 = 0x9B#8 →
    ((noticeCheckOk frame = false ∨ (noticeFields frame).plan ≠ s.timer.plan ∨
        (noticeFields frame).epochLow ≠ s.timer.epoch.setWidth 8 ∨
        s.plan.n ≤ (noticeFields frame).station.toNat) →
      exec (.noticeReceived frame) s = .next { s with line.receiver := .settled }) ∧
    (noticeCheckOk frame = true → (noticeFields frame).plan = s.timer.plan →
      (noticeFields frame).epochLow = s.timer.epoch.setWidth 8 →
      (noticeFields frame).station.toNat < s.plan.n → (noticeFields frame).station = s.member.ownStation →
      ∃ t, exec (.noticeReceived frame) s = .next t ∧ t.member.selfState = .lockout ∧
        t.faults = ⟨s.faults.held ||| 0b0010000000#10, true⟩ ∧ t.line.notices = [] ∧
        t.timer = { s.timer with position := .none, roundOpen := false, deadline := none } ∧
        t.store = s.store ∧ t.line.buffer = s.line.buffer ∧
        t.line.awaiting = false ∧ t.line.receiver = .off ∧ t.line.noticeSend = .idle ∧
        t.member = { s.member with selfState := .lockout, ownBound := false, ownRefused := false } ∧
        (s.member.ownBound = true →
          t.engine.rows = (unbindRows s.timer.epoch s.engine.rows s.member.ownStation).1) ∧
        (s.member.ownBound = false → t.engine.rows = s.engine.rows) ∧ t.tests.running = none ∧
        (∀ r ∈ s.tests.running, t.tests.result = some ⟨r.code, .aborted .lockout, some s.timer.epoch⟩) ∧
        (s.tests.running = none → t.tests = s.tests) ∧
        t.clock = s.clock ∧
        t.sensor = { s.sensor with forced := if s.tests.runs .monitor then 0 else s.sensor.forced } ∧
        (s.tests.runs .pulse = false → t.emulator = s.emulator) ∧
        (s.emulatorSound → t.emulator = { s.emulator with
          testHold := if s.tests.runs .pulse then none else s.emulator.testHold }) ∧
        (t.engine.vote = s.engine.vote.map fun v => { v with testRuns := v.testRuns && !s.tests.runs .vote }) ∧
        (s.port.events.length ≤ 20 → boundOnce s.engine.rows → ∃ new, t.port.events = s.port.events ++ new ∧
          (∀ e ∈ new, e.kind ∈ [EventKind.stationState, .faultHeld, .testDone, .rowState]) ∧
          new.filter (fun e => e.kind = .stationState) = [evStationState s.timer.epoch .lockout] ∧
          new.filter (fun e => e.kind = .faultHeld) =
            (if s.faults.held.getLsbD 7 then [] else [evFaultHeld s.timer.epoch .duplicateId]) ∧
          new.filter (fun e => e.kind = .testDone) =
            (s.tests.running.map fun r => evTestDone s.timer.epoch r.code (.aborted .lockout)).toList ∧
          new.filter (fun e => e.kind = .rowState) =
            (if s.member.ownBound then (unbindRows s.timer.epoch s.engine.rows s.member.ownStation).2 else []))))

/-- A notice taken from another station: FAULT writes the sender's reported faults, TEST its last test report, USER
nothing, each with its record; LEAVE makes an entry that is not ABSENT so, with its runs, flags, faults and report
cleared, appends PEER_LEFT and unbinds a bound source, and changes nothing for an ABSENT one. No other entry and, but
for the receiver, nothing else changes (R88, R112, R114; that PEER_LEFT stands before the ROW_STATE of the unbind is
log 17's deduction). -/
def Obligations.NoticeActsOnSender : Prop :=
  ∀ (frame : BitVec 49) (s : State) (k : Station), s.timer.markSeen = true → s.member.selfState ≠ .lockout →
    s.timer.roundOpen = true → s.line.receiver = .receiving →
    (s.line.noticeSend = .idle ∨ s.line.noticeSend = .lost) → frame.extractLsb' 41 8 = 0x9B#8 →
    noticeCheckOk frame = true →
    (noticeFields frame).plan = s.timer.plan → (noticeFields frame).epochLow = s.timer.epoch.setWidth 8 →
    (noticeFields frame).station = k → k.toNat < s.plan.n → k ≠ s.member.ownStation →
    let p := s.member.peer k
    let arg := (noticeFields frame).argument
    let with' (q : PeerEntry) (es : List EventRecord) (s' : State) : State := { s' with
      line.receiver := .settled
      member.peers := s'.member.peers.set k.toNat q
      port := s'.port.appendAll es }
    ((noticeFields frame).kind = .fault → exec (.noticeReceived frame) s =
      .next (with' { p with reported := arg.setWidth 6 } [evNotice .noticeFault s.timer.epoch k arg] s)) ∧
    ((noticeFields frame).kind = .test → exec (.noticeReceived frame) s =
      .next (with' { p with testReport := some ⟨arg.extractLsb' 0 3, arg.getLsbD 3, arg.extractLsb' 4 2⟩ }
        [evNotice .noticeTest s.timer.epoch k arg] s)) ∧
    ((noticeFields frame).kind = .user → exec (.noticeReceived frame) s = .next { s with
      line.receiver := .settled
      port := s.port.append (evNotice .noticeUser s.timer.epoch k arg) }) ∧
    ((noticeFields frame).kind = .leave → p.state = .absent →
      exec (.noticeReceived frame) s = .next { s with line.receiver := .settled }) ∧
    ((noticeFields frame).kind = .leave → p.state ≠ .absent → p.bound = false → exec (.noticeReceived frame) s =
      .next (with' { p with state := .absent, heardRun := 0, missRun := 0, bound := false, refused := false,
                            reported := 0, testReport := none } [evStation .peerLeft s.timer.epoch k] s)) ∧
    ((noticeFields frame).kind = .leave → p.state ≠ .absent → p.bound = true → exec (.noticeReceived frame) s =
      .next (with' { p with state := .absent, heardRun := 0, missRun := 0, bound := false, refused := false,
                            reported := 0, testReport := none }
        (evStation .peerLeft s.timer.epoch k :: (unbindRows s.timer.epoch s.engine.rows k).2)
        { s with engine.rows := (unbindRows s.timer.epoch s.engine.rows k).1 }))

/-! ## The local port -/

/-- CSN opens and closes transactions: a fall opens one in COMMAND, a rise closes it in any state, loses the data not
shifted out, keeps the Event Queue and releases a TRANSACTION pin alone; COMMAND_BYTE moves COMMAND to ARGUMENTS;
BAD_COMMAND is answered for every byte that is none of the thirteen, and the rest is ignored. Nothing else changes. A
byte completed on SDI brings in COMMAND the row that its value names, COMMAND_BYTE where an argument follows and
BAD_COMMAND where it names none, in ARGUMENTS the command with its argument, and elsewhere nothing. SDO is released in
CLOSED and shows filler, 0xFF, in COMMAND and ARGUMENTS, and in RESPONSE and IGNORE the answer byte by byte and then
filler (R141, R147 to R149, R174; that answers are kept whole is log 20's). -/
def Obligations.TransactionsOpenAndClose : Prop :=
  ∀ s : State,
    (s.port.csnLow = false → exec .csnFall s = .next { s with
      port.csnLow := true, port.txn := .command, port.response := [], port.toDeliver := 0 }) ∧
    (s.port.csnLow = true → (∀ p, s.store.pin ≠ some ⟨p, .transaction⟩) → exec .csnRise s = .next { s with
      port.csnLow := false, port.txn := .closed, port.response := [], port.toDeliver := 0 }) ∧
    (s.port.csnLow = true → (∃ p, s.store.pin = some ⟨p, .transaction⟩) → exec .csnRise s = .next { s with
      port.csnLow := false, port.txn := .closed, port.response := [], port.toDeliver := 0, store.pin := none }) ∧
    (s.port.txn = .command →
      exec (.commandByte 0x02) s = .next { s with port.txn := .arguments .readEvents } ∧
      exec (.commandByte 0x50) s = .next { s with port.txn := .arguments .startTest } ∧
      exec (.commandByte 0x60) s = .next { s with port.txn := .arguments .postNotice }) ∧
    (∀ b : Byte, s.port.txn = .command →
      b ∉ [0x01#8, 0x02#8, 0x10#8, 0x11#8, 0x12#8, 0x20#8, 0x30#8, 0x40#8, 0x41#8, 0x4F#8, 0x50#8, 0x51#8, 0x60#8] →
      exec (.badCommand b) s = .next { s with port.txn := .ignore, port.response := [0x01#8] }) ∧
    (s.port.txn = .command → ∀ b : Byte, s.port.brings b = some (
      if b = 0x01 then .readStatus else if b = 0x10 then .pin else if b = 0x11 then .unpin
      else if b = 0x12 then .readPage else if b = 0x20 then .readPeers else if b = 0x30 then .clearFaults
      else if b = 0x40 then .withdraw else if b = 0x41 then .rejoin else if b = 0x4F then .restart
      else if b = 0x51 then .clearResult else if b = 0x02 ∨ b = 0x50 ∨ b = 0x60 then .commandByte b
      else .badCommand b)) ∧
    (∀ b : Byte, (s.port.txn = .arguments .readEvents → s.port.brings b = some (.readEvents b)) ∧
      (s.port.txn = .arguments .startTest → s.port.brings b = some (.startTest b)) ∧
      (s.port.txn = .arguments .postNotice → s.port.brings b = some (.postNotice b)) ∧
      (s.port.txn = .closed ∨ s.port.txn = .response ∨ s.port.txn = .ignore → s.port.brings b = none)) ∧
    (∀ i, (s.port.txn = .closed → s.port.sdo i = none) ∧
      (s.port.txn = .command ∨ (∃ c, s.port.txn = .arguments c) → s.port.sdo i = some 0xFF) ∧
      (s.port.txn = .response ∨ s.port.txn = .ignore →
        (∀ b, s.port.response[i]? = some b → s.port.sdo i = some b) ∧
        (s.port.response.length ≤ i → s.port.sdo i = some 0xFF)))

/-- READ_STATUS, READ_PEERS and READ_PAGE are answered OK with 31, 96 and 88 bytes, captured at the take, in every self
state, laid out as Tables 11-6, 11-7 and 11-9 have them, bit for bit; READ_PAGE reads the pinned page, else pins the
FRONT page for the transaction, and without either is answered NO_PAGE with 88 zero bytes. PIN sets the pin on the
FRONT page as HELD, wherever it lay, and is answered OK with the page's number and epoch; with no FRONT page it is
answered NO_PAGE and the pin is unchanged. After the answer SDO shows filler. Nothing else changes (R139, R141, R148 to
R151, R174, R175; that bits no table assigns read 0 is log 10's, and that a report of phase START shows outcome 0 log
21's). -/
def Obligations.ReadsAndPinAnswer : Prop :=
  ∀ s : State, s.port.txn = .command → s.rolesSound → s.member.peers.length = 16 →
    let two (x : BitVec 16) : List Byte := [x.extractLsb' 8 8, x.extractLsb' 0 8]
    let heldBytes (f : FaultSet) : List Byte := [0#6 ++ f.extractLsb' 8 2, f.extractLsb' 0 8]
    let rowBytes (r : PageRow) : List Byte :=
      [0#3 ++ BitVec.ofBool r.present ++ BitVec.ofBool r.stale ++ BitVec.ofNat 3 r.state.code,
        BitVec.ofNat 8 r.holdAge] ++ two r.angle ++ two r.velocity ++ two r.usedSet ++ two r.epoch
    let pageBytes (p : Page) : List Byte :=
      [BitVec.ofBool p.valid ++ BitVec.ofBool p.selfMarked ++ 0#3 ++ BitVec.ofNat 3 p.selfState.code]
        ++ two p.epoch ++ two p.presentSet ++ [0#3 ++ p.live] ++ heldBytes p.held ++ p.rows.flatMap rowBytes
    let reportCode (p : PeerEntry) : BitVec 3 := (p.testReport.map TestReport.code).getD 0
    let reportOutcome (p : PeerEntry) : BitVec 2 := match p.testReport with
      | some r => if r.ended then r.outcome else 0
      | none => 0
    let peerBytes (p : PeerEntry) : List Byte :=
      [BitVec.ofNat 1 p.frameState.code ++ BitVec.ofBool p.refused ++ BitVec.ofBool p.bound ++ p.axis
          ++ BitVec.ofNat 2 p.state.code] ++ two p.heard ++ [p.lastEpoch.extractLsb' 0 8, 0#2 ++ p.reported,
        reportOutcome p ++ reportCode p ++ BitVec.ofBool p.flags.sensorFault ++ BitVec.ofBool p.flags.settling
          ++ BitVec.ofBool p.flags.test]
    let kind (i : Nat) : BitVec 2 := ((s.line.notices[i]?).map fun e => BitVec.ofNat 2 e.kind.code).getD 0
    (∃ (block test result pin : List Byte) (events : Byte), block.length = 31 ∧
      exec .readStatus s = .next { s with port.txn := .response, port.response := 0x00#8 :: block } ∧
      block = [
          BitVec.ofBool s.timer.selfMarked ++ 0#1 ++ BitVec.ofNat 2 s.sensor.conv.code ++ 0#1
            ++ BitVec.ofNat 3 s.member.selfState.code,
          0#1 ++ s.timer.plan ++ s.member.ownStation,
          0#2 ++ BitVec.ofNat 2 s.emulator.state.code ++ 0#1 ++ s.member.ownAxis]
        ++ two s.timer.epoch ++ two s.timer.epochLength
        ++ [0#3 ++ (s.sensor.evaluated ||| s.sensor.forced)] ++ heldBytes s.faults.held
        ++ test ++ result
        ++ [BitVec.ofNat 8 s.line.notices.length, kind 0 ++ kind 1 ++ kind 2 ++ kind 3, events]
        ++ pin
        ++ [BitVec.ofNat 8 s.line.counts.badCheck, BitVec.ofNat 8 s.line.counts.plan,
          BitVec.ofNat 8 s.line.counts.slot, BitVec.ofNat 8 s.line.counts.own]
        ++ two s.sensor.sample.angle ++ two s.sensor.sample.velocity
        ++ [0#5 ++ BitVec.ofBool s.sensor.sample.sensorFault ++ BitVec.ofBool s.sensor.sample.settling ++ 0#1] ∧
      (s.tests.running = none → test = [0, 0]) ∧
      (∀ r ∈ s.tests.running, r.step < 16 → r.remaining < 16 → test = [BitVec.ofNat 8 r.code.code,
        if r.code = .vote then 0 else BitVec.ofNat 4 r.remaining ++ BitVec.ofNat 4 r.step]) ∧
      (s.tests.result = none → result = [0, 0, 0, 0]) ∧
      (∀ r ∈ s.tests.result, result =
        [0#2 ++ BitVec.ofNat 3 r.outcome.code ++ BitVec.ofNat 3 r.code.code,
          match r.outcome with
          | .fail n => BitVec.ofNat 8 n
          | .aborted .restart => 1
          | .aborted .state => 2
          | .aborted .lockout => 3
          | .running | .pass => 0] ++ two (r.endingEpoch.getD 0)) ∧
      (s.port.events.length ≤ 32 →
        events = BitVec.ofBool s.port.overflow ++ 0#1 ++ BitVec.ofNat 6 s.port.events.length) ∧
      (s.store.pin = none → pin = [0, 0, 0]) ∧
      (∀ p, s.store.pin = some ⟨p, .held⟩ →
        pin = [1#1 ++ 0#5 ++ BitVec.ofNat 2 p.val] ++ two (s.store.page p).epoch)) ∧
    (∃ block : List Byte, block.length = 96 ∧
      (∀ k : Station, block.extract (6 * k.toNat) (6 * k.toNat + 6) = peerBytes (s.member.peer k)) ∧
      exec .readPeers s = .next { s with port.txn := .response, port.response := 0x00#8 :: block }) ∧
    (∀ p, s.store.pin = some p → (pageBytes (s.store.page p.page)).length = 88 ∧
      exec .readPage s = .next { s with
        port.txn := .response, port.response := 0x00#8 :: pageBytes (s.store.page p.page) }) ∧
    (∀ p, s.store.pin = none → s.store.front = some p → (pageBytes (s.store.page p)).length = 88 ∧
      exec .readPage s = .next { s with
        store.pin := some ⟨p, .transaction⟩
        port.txn := .response, port.response := 0x00#8 :: pageBytes (s.store.page p) }) ∧
    (s.store.pin = none → s.store.front = none →
      exec .readPage s = .next { s with
        port.txn := .response, port.response := 0x05#8 :: List.replicate 88 0 }) ∧
    (s.store.front = none → exec .pin s = .next { s with port.txn := .response, port.response := [0x05#8] }) ∧
    (∀ p, s.store.front = some p → exec .pin s = .next { s with
      store.pin := some ⟨p, .held⟩
      port.txn := .response
      port.response := [0x00#8, BitVec.ofNat 8 p.val] ++ two (s.store.page p).epoch }) ∧
    (∀ c ∈ [Instr.readStatus, .readPeers, .readPage, .pin], ∃ t, exec c s = .next t ∧
      ∀ i, t.port.response.length ≤ i → t.port.sdo i = some 0xFF)

/-- READ_EVENTS: a count of 0 or above 32 is answered BAD_ARGUMENT and removes nothing; a valid one fixes n, the
smaller of the count and the queue's length, and answers OK with n and OVERFLOW and the n oldest records, 7 bytes each,
laid out as Table 11-8 has them; with n of 0 OVERFLOW is cleared at the take. EVENT_RECORD_DELIVERED removes the oldest
record, and clears OVERFLOW when the last one leaves the queue empty. Nothing else changes (R147, R149, R174, R175;
that bits no table assigns read 0 is log 10's, and that READ_EVENTS is taken directly in COMMAND log 18's). -/
def Obligations.EventsAreReadAndDelivered : Prop :=
  ∀ s : State,
    let two (x : BitVec 16) : List Byte := [x.extractLsb' 8 8, x.extractLsb' 0 8]
    let recordBytes (r : EventRecord) : List Byte :=
      [BitVec.ofNat 8 r.kind.code] ++ two r.epoch ++
        [0#5 ++ BitVec.ofBool r.argument.isSome ++ BitVec.ofBool r.axis.isSome ++ BitVec.ofBool r.station.isSome,
          0#4 ++ r.station.getD 0, 0#5 ++ r.axis.getD 0, r.argument.getD 0]
    (∀ count : Byte, (s.port.txn = .command ∨ s.port.txn = .arguments .readEvents) →
      ((count = 0 ∨ 32 < count.toNat) → exec (.readEvents count) s = .next { s with
        port.txn := .response, port.response := [0x02#8] }) ∧
      (0 < count.toNat → count.toNat ≤ 32 →
        exec (.readEvents count) s = .next { s with
          port.txn := .response
          port.toDeliver := min count.toNat s.port.events.length
          port.overflow := if s.port.events = [] then false else s.port.overflow
          port.response := 0x00#8 ::
            (BitVec.ofBool s.port.overflow ++ 0#1 ++ BitVec.ofNat 6 (min count.toNat s.port.events.length))
            :: ((s.port.events.take count.toNat).map recordBytes).flatten })) ∧
    (∀ r rest, s.port.txn = .response → 0 < s.port.toDeliver → s.port.events = r :: rest →
      (recordBytes r).length = 7 ∧
      exec .eventRecordDelivered s = .next { s with
        port.events := rest
        port.toDeliver := s.port.toDeliver - 1
        port.overflow := if s.port.toDeliver = 1 ∧ rest = [] then false else s.port.overflow })

/-- UNPIN in every self state: the pin is none, the answer is OK, pages, roles and spare order are as they were, and
the earliest SPARE page is the next publication's FILL. -/
def Obligations.UnpinReleasesPage : Prop :=
  ∀ s : State, s.port.txn = .command →
    ∃ t, exec .unpin s = .next t ∧
      t = { s with store.pin := none, port.txn := .response, port.response := [0x00#8] } ∧
      ∀ p rest page now, s.rolesSound → s.store.spare = p :: rest → (t.store.publish page now).fill = p

/-- CLEAR_FAULTS in every self state, answered OK: a sensor kind stays only if it was held and is evaluated live, every
other kind goes, FLT follows the held set, and in ACTIVE a change of the reported part posts a FAULT that carries it: a
pending one keeps its place and its rounds pending and takes the new argument, replaced in flight when its frame is in
flight, and else a new entry stands at the end, with both flags clear (R105); no record is appended and the self state
is kept (R130 to R132). -/
def Obligations.ClearFaultsKeepsLiveKinds : Prop :=
  ∀ s : State, s.port.txn = .command →
    ∃ t, exec .clearFaults s = .next t ∧ t.faults.held = s.faults.held &&& s.sensor.evaluated.setWidth 10 ∧
      (t.faults.flt = true ↔ t.faults.held ≠ 0) ∧ t.port.response = [0x00#8] ∧ t.port.txn = .response ∧
      t.port.events = s.port.events ∧ t.member = s.member ∧ t.sensor = s.sensor ∧ t.timer = s.timer ∧
      t.engine = s.engine ∧ t.store = s.store ∧ t.emulator = s.emulator ∧ t.tests = s.tests ∧
      (s.member.selfState = .active → reportedPart t.faults.held ≠ reportedPart s.faults.held →
        t.line = { s.line with notices :=
          if ∃ e ∈ s.line.notices, e.kind = .fault
          then s.line.notices.map fun e => if e.kind = .fault
            then { e with argument := (reportedPart t.faults.held).setWidth 8, replaced := e.inFlight || e.replaced }
            else e
          else s.line.notices ++ [⟨.fault, (reportedPart t.faults.held).setWidth 8, 0, false, false⟩] }) ∧
      (s.member.selfState ≠ .active ∨ reportedPart t.faults.held = reportedPart s.faults.held →
        t.line = s.line)

/-- WITHDRAW in JOINING and ACTIVE is answered OK and enters LEAVING: a LEAVE is posted, at the end of the queue where
none was pending, the own station is a source of no row, its flags are clear, the deadline, the frame being sent and a
running test go on; elsewhere WITHDRAW is answered WRONG_STATE. REJOIN in WITHDRAWN is answered OK and enters JOINING:
runs 0, Converter realigned, deadline armed from the last origin, a mark driven at once, as no cold start, where that
is past and no drive is on, and else the whole Line Controller as it was; elsewhere it is answered WRONG_STATE. A
refusal changes nothing else. With room WITHDRAW appends STATION_STATE and, where the unbind leaves the row without
sources, ROW_STATE, in an order that R145 leaves open, and REJOIN appends STATION_STATE and then the TEST_DONE of an
aborted test (R12, R47, R48, R80, R92, R96, R98, R105, R124, R149, R170). -/
def Obligations.StationLeavesAndRejoins : Prop :=
  ∀ s : State, s.port.txn = .command →
    ((s.member.selfState = .joining ∨ s.member.selfState = .active) →
      ∃ t, exec .withdraw s = .next t ∧
        t.member = { s.member with selfState := .leaving, ownBound := false, ownRefused := false } ∧
        t.line = { s.line with notices :=
          if ∃ e ∈ s.line.notices, e.kind = .leave
          then s.line.notices.map fun e => if e.kind = .leave
            then { e with argument := 0, rounds := 0, replaced := e.inFlight || e.replaced } else e
          else s.line.notices ++ [⟨.leave, 0, 0, false, false⟩] } ∧ t.timer = s.timer ∧
        t.tests = s.tests ∧ t.store = s.store ∧ t.sensor = s.sensor ∧ t.engine.vote = s.engine.vote ∧
        t.engine.rows = (unbindRows s.timer.epoch s.engine.rows s.member.ownStation).1 ∧
        (∀ r ∈ t.engine.rows, r.has s.member.ownStation = false) ∧ t.port.response = [0x00#8] ∧
        (s.port.events.length ≤ 20 → boundOnce s.engine.rows → ∃ new, t.port.events = s.port.events ++ new ∧
          new.Perm (evStationState s.timer.epoch .leaving ::
            (unbindRows s.timer.epoch s.engine.rows s.member.ownStation).2))) ∧
    (s.member.selfState ≠ .joining → s.member.selfState ≠ .active →
      exec .withdraw s = .next { s with port.txn := .response, port.response := [0x04#8] }) ∧
    (s.member.selfState = .withdrawn →
      ∃ t, exec .rejoin s = .next t ∧
        t.member = { s.member with selfState := .joining, joinRun := 0, joinEpochs := 0 } ∧
        t.sensor.conv = .acquire ∧ t.sensor.acqCount = 0 ∧ t.sensor.window = [] ∧
        t.sensor.excitation = s.timer.origin ∧ t.sensor.sample = s.sensor.sample ∧
        (∀ o ∈ s.timer.origin,
          t.timer = { s.timer with
            deadline := some (o + s.plan.period + 8 * s.member.ownStation.toNat) } ∧
          (o + s.plan.period + 8 * s.member.ownStation.toNat ≤ s.clock →
            ((∀ cold since, s.line.markDrive ≠ .driving cold since) →
              t.line = { s.line with markDrive := .driving false s.clock }) ∧
            ((∃ cold since, s.line.markDrive = .driving cold since) → t.line = s.line)) ∧
          (s.clock < o + s.plan.period + 8 * s.member.ownStation.toNat → t.line = s.line)) ∧
        (s.timer.origin = none → t.timer = s.timer ∧ t.line = s.line) ∧
        (∀ r ∈ s.tests.running, (r.code = .inject ∨ r.code = .monitor) →
          t.tests = ⟨none, some ⟨r.code, .aborted .state, some s.timer.epoch⟩⟩) ∧
        (∀ r ∈ s.tests.running, (r.code = .vote ∨ r.code = .pulse) → t.tests = s.tests) ∧
        t.engine = s.engine ∧ t.store = s.store ∧ t.port.response = [0x00#8] ∧
        (s.port.events.length ≤ 30 → t.port.events = s.port.events ++ evStationState s.timer.epoch .joining ::
          match s.tests.running with
          | some r => if r.code = .inject ∨ r.code = .monitor
            then [evTestDone s.timer.epoch r.code (.aborted .state)] else []
          | none => [])) ∧
    (s.member.selfState ≠ .withdrawn →
      exec .rejoin s = .next { s with port.txn := .response, port.response := [0x04#8] })

/-- START_TEST, by the first case of R164 that applies: BAD_ARGUMENT for a code outside 1 to 4, BUSY with a test in
progress, WRONG_STATE in LOCKOUT and for codes 1 and 2 in JOINING; otherwise OK, with the test in progress at step 0
and the record RUNNING, the START notice posted in ACTIVE for codes 1 and 2 (a pending TEST takes the argument and
rounds pending 0, and else an entry is added at the end), LOSS_SIN forced for code 2 and the test hold set for code 4.
A refusal changes nothing else (R105, R149, R160, R164; that it is taken directly in COMMAND is log 18's). -/
def Obligations.StartTestStartsOrRefuses : Prop :=
  ∀ (code : Byte) (s : State), (s.port.txn = .command ∨ s.port.txn = .arguments .startTest) →
    let refuse (b : Byte) : Host.Outcome State Fault Refusal :=
      .next { s with port.txn := .response, port.response := [b] }
    ((code = 0 ∨ 4 < code.toNat) → exec (.startTest code) s = refuse 0x02) ∧
    (∀ c : TestCode, c.code = code.toNat →
      (s.tests.running ≠ none → exec (.startTest code) s = refuse 0x03) ∧
      (s.tests.running = none →
        (s.member.selfState = .lockout ∨ s.member.selfState = .joining ∧ code.toNat ≤ 2) →
        exec (.startTest code) s = refuse 0x04) ∧
      (s.tests.running = none → s.member.selfState ≠ .lockout →
        ¬(s.member.selfState = .joining ∧ code.toNat ≤ 2) →
        ∃ t, exec (.startTest code) s = .next t ∧
          t.tests = ⟨some ⟨c, 0, c.length⟩, some ⟨c, .running, none⟩⟩ ∧ t.port.response = [0x00#8] ∧
          t.port.events = s.port.events ∧
          (s.member.selfState = .active → code.toNat ≤ 2 →
            t.line = { s.line with notices :=
              if ∃ e ∈ s.line.notices, e.kind = .test
              then s.line.notices.map fun e => if e.kind = .test
                then { e with argument := code, rounds := 0, replaced := e.inFlight || e.replaced } else e
              else s.line.notices ++ [⟨.test, code, 0, false, false⟩] }) ∧
          (s.member.selfState ≠ .active ∨ 2 < code.toNat → t.line = s.line) ∧
          t.sensor = (if c = .monitor then { s.sensor with forced := 0b00001#5 } else s.sensor) ∧
          t.emulator = (if c = .pulse then
            { s.emulator with emission := none, testHold := some s.emulator.counter } else s.emulator) ∧
          t.member = s.member ∧ t.timer = s.timer ∧ t.engine = s.engine ∧ t.store = s.store ∧
          t.faults = s.faults))

/-- CLEAR_RESULT in every self state: BUSY while a test is in progress, and the record keeps RUNNING; otherwise the
record is emptied, with OK, and the held set is as it was. A START_TEST, here in the form taken directly in COMMAND
(log 18), is BUSY while the test is in progress and not BUSY once it has ended (R171). -/
def Obligations.ClearResultEmptiesRecord : Prop :=
  ∀ s : State, s.port.txn = .command →
    (s.tests.running ≠ none →
      exec .clearResult s = .next { s with port.txn := .response, port.response := [0x03#8] } ∧
      ∀ code : Byte, 1 ≤ code.toNat → code.toNat ≤ 4 →
        exec (.startTest code) s = .next { s with port.txn := .response, port.response := [0x03#8] }) ∧
    (s.tests.running = none →
      exec .clearResult s = .next { s with
        tests.result := none, port.txn := .response, port.response := [0x00#8] } ∧
      ∀ code : Byte, ∃ t, exec (.startTest code) s = .next t ∧ t.port.response ≠ [0x03#8])

/-- POST_NOTICE: WRONG_STATE in LOCKOUT; elsewhere BUSY while a USER entry is pending, and otherwise the entry is added
at the end of the queue, with rounds pending 0 and both flags clear, and the answer is OK. Nothing else changes. And
the posting of a LEAVE, FAULT or TEST by a block of the station, as `postNotice` leaves the queue: with none of the
kind pending, an entry at the end, with rounds pending 0 and both flags clear; else the pending entry keeps its place
and its in-flight flag and takes the argument, a LEAVE and a TEST with rounds pending 0, a FAULT with its rounds
pending kept, and the replaced-in-flight flag is set when the entry is in flight (R104, R105, R149; that it is taken
directly in COMMAND is log 18's). -/
def Obligations.PostNoticeAddsUserEntry : Prop :=
  (∀ (q : List NoticeEntry) (kind : NoticeKind) (arg : Byte), kind ≠ .user →
    ((∀ e ∈ q, e.kind ≠ kind) → postNotice q kind arg = q ++ [⟨kind, arg, 0, false, false⟩]) ∧
    ((∃ e ∈ q, e.kind = kind) → postNotice q kind arg = q.map fun e => if e.kind = kind
      then ⟨kind, arg, if kind = .fault then e.rounds else 0, e.inFlight, e.replaced || e.inFlight⟩ else e)) ∧
  ∀ (value : Byte) (s : State), (s.port.txn = .command ∨ s.port.txn = .arguments .postNotice) →
    (s.member.selfState = .lockout →
      exec (.postNotice value) s = .next { s with port.txn := .response, port.response := [0x04#8] }) ∧
    (s.member.selfState ≠ .lockout → (∃ e ∈ s.line.notices, e.kind = .user) →
      exec (.postNotice value) s = .next { s with port.txn := .response, port.response := [0x03#8] }) ∧
    (s.member.selfState ≠ .lockout → (∀ e ∈ s.line.notices, e.kind ≠ .user) →
      exec (.postNotice value) s = .next { s with
        line.notices := s.line.notices ++ [⟨.user, value, 0, false, false⟩]
        port.txn := .response, port.response := [0x00#8] })

/-! ## Formats -/

/-- A receiver reads from a sample frame exactly what its sender put into it, for every value of every field: sync,
frame check, plan code and the eight fields of the record (R69, R172, R173, Table 11-2). -/
def Obligations.SampleFrameRoundTrip : Prop :=
  ∀ (plan : PlanCode) (f : FrameRecord),
    Instr.wellFormed (.frameReceived (sampleFrame plan f)) = true ∧ sampleCheckOk (sampleFrame plan f) = true ∧
      samplePlan (sampleFrame plan f) = plan ∧ sampleRecord (sampleFrame plan f) = f

/-- A receiver reads from a notice frame exactly what its sender put into it, for every value of every field; and the
command byte of each local command names it and no other byte does (R112, R172 to R174, Tables 11-3, 11-5). -/
def Obligations.NoticeFrameRoundTrip : Prop :=
  (∀ f : NoticeFields,
    Instr.wellFormed (.noticeReceived (noticeFrame f)) = true ∧ noticeCheckOk (noticeFrame f) = true ∧
      noticeFields (noticeFrame f) = f) ∧
  ∀ (b : Byte) (c : LocalCommand), LocalCommand.ofByte b = some c ↔ b = c.toByte

/-- No sequence of bits holds the line dominant for longer than one bit time, that is for three halves, so no frame
reaches the 12 bit times of a mark; and the two halves of every bit differ (R45, R172). -/
def Obligations.NoFrameLooksLikeAMark : Prop :=
  ∀ (w : Nat) (v : BitVec w), (codedHalves v).length = 2 * w ∧ ¬[true, true, true] <:+: codedHalves v ∧
    ∀ i, i < w → (codedHalves v)[2 * i]? = some !(v.getLsbD (w - 1 - i)) ∧
      (codedHalves v)[2 * i + 1]? = some (v.getLsbD (w - 1 - i))

/-! ## What every step keeps -/

/-- Every step keeps the Axis Table and a vote in flight as R1 to R5 and the first part of R13 have them: no station is
a source of two rows. It keeps the other parts of R13 with the Peer Table: a peer is a source of a row exactly while
its bound flag is set, of the row of its axis, and is then PRESENT or SILENT; the own station is one exactly while the
own bound flag is set, of the row of the own axis, and is then JOINING or ACTIVE. -/
def Obligations.StepKeepsAxisTable : Prop :=
  (∀ s t : State, s.tableSound → step s = .next t → t.tableSound) ∧
  ∀ s t : State, s.tableSound → s.peersSound → s.listedSound → step s = .next t → t.listedSound

/-- Every step from a state with a sound Axis Table, whose vote in flight has eight rows, keeps one page FILL, at most
one FRONT, the others SPARE, each of eight rows, and the pin off the FILL page (R135, R137, R142). -/
def Obligations.StepKeepsPageRoles : Prop :=
  ∀ s t : State, s.tableSound → s.rolesSound → step s = .next t → t.rolesSound

/-- Every step keeps the Event Queue within 32 records, the transaction with CSN, the Notice Queue within four entries
of distinct kinds and 31 rounds, and FLT asserted exactly while the held set is not empty (R104, R109, R131, R144,
R147, R148). -/
def Obligations.StepKeepsQueuesAndFaultLine : Prop :=
  ∀ s t : State, s.portSound → s.noticesSound → s.faultLineSound → step s = .next t →
    t.portSound ∧ t.noticesSound ∧ t.faultLineSound

/-- Every step keeps the counters of the Pulse Emulator below C, an emission within 512 edges, and the outputs at the
levels of the counter and the state (R153, R157, R158, R160). -/
def Obligations.StepKeepsEmulator : Prop :=
  ∀ s t : State, s.emulatorSound → step s = .next t → t.emulatorSound

/-- Every step keeps the mark deadline armed exactly where R48 arms it, at origin + P + 8 times the own number, and
LOCKOUT without a schedule and without notices (R48, R52, R100, R115). -/
def Obligations.StepKeepsDeadlineAndLockout : Prop :=
  ∀ s t : State, s.deadlineSound → s.lockoutSound → step s = .next t → t.deadlineSound ∧ t.lockoutSound

/-- Every step keeps the runs of Table 5-1 and of the peer entries in their ranges, and the own entry and those at or
above N ABSENT (R78, R84 to R86, R90 to R94). -/
def Obligations.StepKeepsMembership : Prop :=
  ∀ s t : State, s.memberRunsSound → s.peersSound → step s = .next t → t.memberRunsSound ∧ t.peersSound

/-- Every step keeps a test in progress within its length, forced conditions under MONITOR alone, the test hold under
PULSE alone and RUNNING in the record exactly while a test is in progress; and the acquisition count, the tracking
window, the Epoch Buffer and the invalid counts in their ranges (R60, R75, R117, R121, R122, R160, R163 to R171). -/
def Obligations.StepKeepsTestsAndSensor : Prop :=
  ∀ s t : State, s.testsSound → s.sensorSound → s.bufferSound → step s = .next t →
    t.testsSound ∧ t.sensorSound ∧ t.bufferSound

end Statements
end

