-- ==== Sys2Proof/Laws/State.lean ====
section
/-! SUPPORT. What each operation of the machine does to each block of the state, one lemma per block: a block the
operation does not touch is as it was, and a block it rewrites in one way reads as rewritten. Proofs cite these
(they are simp lemmas) and unfold no record update. -/

namespace Sys2Proof.Machine

/-! ### `State.emit` -/

@[simp] theorem State.emit_clock (s : State) (es : List EventRecord) : (s.emit es).clock = s.clock := rfl

@[simp] theorem State.emit_line (s : State) (es : List EventRecord) : (s.emit es).line = s.line := rfl

@[simp] theorem State.emit_timer (s : State) (es : List EventRecord) : (s.emit es).timer = s.timer := rfl

@[simp] theorem State.emit_member (s : State) (es : List EventRecord) : (s.emit es).member = s.member := rfl

@[simp] theorem State.emit_engine (s : State) (es : List EventRecord) : (s.emit es).engine = s.engine := rfl

@[simp] theorem State.emit_sensor (s : State) (es : List EventRecord) : (s.emit es).sensor = s.sensor := rfl

@[simp] theorem State.emit_faults (s : State) (es : List EventRecord) : (s.emit es).faults = s.faults := rfl

@[simp] theorem State.emit_store (s : State) (es : List EventRecord) : (s.emit es).store = s.store := rfl

@[simp] theorem State.emit_port (s : State) (es : List EventRecord) : (s.emit es).port = s.port.appendAll es := rfl

@[simp] theorem State.emit_emulator (s : State) (es : List EventRecord) : (s.emit es).emulator = s.emulator := rfl

@[simp] theorem State.emit_tests (s : State) (es : List EventRecord) : (s.emit es).tests = s.tests := rfl

@[simp] theorem State.emit_freeCount (s : State) (es : List EventRecord) : (s.emit es).freeCount = s.freeCount := rfl

@[simp] theorem State.emit_pending (s : State) (es : List EventRecord) : (s.emit es).pending = s.pending := rfl

/-! ### `State.emitTogether` -/

@[simp] theorem State.emitTogether_clock (s : State) (bs : List (List EventRecord)) :
    (s.emitTogether bs).clock = s.clock := rfl

@[simp] theorem State.emitTogether_line (s : State) (bs : List (List EventRecord)) :
    (s.emitTogether bs).line = s.line := rfl

@[simp] theorem State.emitTogether_timer (s : State) (bs : List (List EventRecord)) :
    (s.emitTogether bs).timer = s.timer := rfl

@[simp] theorem State.emitTogether_member (s : State) (bs : List (List EventRecord)) :
    (s.emitTogether bs).member = s.member := rfl

@[simp] theorem State.emitTogether_engine (s : State) (bs : List (List EventRecord)) :
    (s.emitTogether bs).engine = s.engine := rfl

@[simp] theorem State.emitTogether_sensor (s : State) (bs : List (List EventRecord)) :
    (s.emitTogether bs).sensor = s.sensor := rfl

@[simp] theorem State.emitTogether_faults (s : State) (bs : List (List EventRecord)) :
    (s.emitTogether bs).faults = s.faults := rfl

@[simp] theorem State.emitTogether_store (s : State) (bs : List (List EventRecord)) :
    (s.emitTogether bs).store = s.store := rfl

@[simp] theorem State.emitTogether_port (s : State) (bs : List (List EventRecord)) :
    (s.emitTogether bs).port = s.port.appendAll (mergeBlocks s.freeCount bs).1 := rfl

@[simp] theorem State.emitTogether_emulator (s : State) (bs : List (List EventRecord)) :
    (s.emitTogether bs).emulator = s.emulator := rfl

@[simp] theorem State.emitTogether_tests (s : State) (bs : List (List EventRecord)) :
    (s.emitTogether bs).tests = s.tests := rfl

@[simp] theorem State.emitTogether_freeCount (s : State) (bs : List (List EventRecord)) :
    (s.emitTogether bs).freeCount = (mergeBlocks s.freeCount bs).2 := rfl

@[simp] theorem State.emitTogether_pending (s : State) (bs : List (List EventRecord)) :
    (s.emitTogether bs).pending = s.pending := rfl

/-! ### `State.post` -/

@[simp] theorem State.post_clock (s : State) (k : NoticeKind) (a : Byte) : (s.post k a).clock = s.clock := rfl

@[simp] theorem State.post_line (s : State) (k : NoticeKind) (a : Byte) :
    (s.post k a).line = { s.line with notices := postNotice s.line.notices k a } := rfl

@[simp] theorem State.post_timer (s : State) (k : NoticeKind) (a : Byte) : (s.post k a).timer = s.timer := rfl

@[simp] theorem State.post_member (s : State) (k : NoticeKind) (a : Byte) : (s.post k a).member = s.member := rfl

@[simp] theorem State.post_engine (s : State) (k : NoticeKind) (a : Byte) : (s.post k a).engine = s.engine := rfl

@[simp] theorem State.post_sensor (s : State) (k : NoticeKind) (a : Byte) : (s.post k a).sensor = s.sensor := rfl

@[simp] theorem State.post_faults (s : State) (k : NoticeKind) (a : Byte) : (s.post k a).faults = s.faults := rfl

@[simp] theorem State.post_store (s : State) (k : NoticeKind) (a : Byte) : (s.post k a).store = s.store := rfl

@[simp] theorem State.post_port (s : State) (k : NoticeKind) (a : Byte) : (s.post k a).port = s.port := rfl

@[simp] theorem State.post_emulator (s : State) (k : NoticeKind) (a : Byte) :
    (s.post k a).emulator = s.emulator := rfl

@[simp] theorem State.post_tests (s : State) (k : NoticeKind) (a : Byte) : (s.post k a).tests = s.tests := rfl

@[simp] theorem State.post_freeCount (s : State) (k : NoticeKind) (a : Byte) :
    (s.post k a).freeCount = s.freeCount := rfl

@[simp] theorem State.post_pending (s : State) (k : NoticeKind) (a : Byte) : (s.post k a).pending = s.pending := rfl

/-! ### `State.answer` -/

@[simp] theorem State.answer_clock (s : State) (st : Status) (d : List Byte) : (s.answer st d).clock = s.clock := rfl

@[simp] theorem State.answer_line (s : State) (st : Status) (d : List Byte) : (s.answer st d).line = s.line := rfl

@[simp] theorem State.answer_timer (s : State) (st : Status) (d : List Byte) : (s.answer st d).timer = s.timer := rfl

@[simp] theorem State.answer_member (s : State) (st : Status) (d : List Byte) :
    (s.answer st d).member = s.member := rfl

@[simp] theorem State.answer_engine (s : State) (st : Status) (d : List Byte) :
    (s.answer st d).engine = s.engine := rfl

@[simp] theorem State.answer_sensor (s : State) (st : Status) (d : List Byte) :
    (s.answer st d).sensor = s.sensor := rfl

@[simp] theorem State.answer_faults (s : State) (st : Status) (d : List Byte) :
    (s.answer st d).faults = s.faults := rfl

@[simp] theorem State.answer_store (s : State) (st : Status) (d : List Byte) : (s.answer st d).store = s.store := rfl

@[simp] theorem State.answer_port (s : State) (st : Status) (d : List Byte) :
    (s.answer st d).port = { s.port with txn := .response, response := st.byte :: d } := rfl

@[simp] theorem State.answer_emulator (s : State) (st : Status) (d : List Byte) :
    (s.answer st d).emulator = s.emulator := rfl

@[simp] theorem State.answer_tests (s : State) (st : Status) (d : List Byte) : (s.answer st d).tests = s.tests := rfl

@[simp] theorem State.answer_freeCount (s : State) (st : Status) (d : List Byte) :
    (s.answer st d).freeCount = s.freeCount := rfl

@[simp] theorem State.answer_pending (s : State) (st : Status) (d : List Byte) :
    (s.answer st d).pending = s.pending := rfl

/-! ### `State.setFault` -/

@[simp] theorem State.setFault_clock (s : State) (k : FaultKind) : (s.setFault k).clock = s.clock := rfl

@[simp] theorem State.setFault_line (s : State) (k : FaultKind) : (s.setFault k).line = s.line := rfl

@[simp] theorem State.setFault_timer (s : State) (k : FaultKind) : (s.setFault k).timer = s.timer := rfl

@[simp] theorem State.setFault_member (s : State) (k : FaultKind) : (s.setFault k).member = s.member := rfl

@[simp] theorem State.setFault_engine (s : State) (k : FaultKind) : (s.setFault k).engine = s.engine := rfl

@[simp] theorem State.setFault_sensor (s : State) (k : FaultKind) : (s.setFault k).sensor = s.sensor := rfl

@[simp] theorem State.setFault_faults (s : State) (k : FaultKind) : (s.setFault k).faults = s.faults.set k := rfl

@[simp] theorem State.setFault_store (s : State) (k : FaultKind) : (s.setFault k).store = s.store := rfl

@[simp] theorem State.setFault_port (s : State) (k : FaultKind) : (s.setFault k).port = s.port := rfl

@[simp] theorem State.setFault_emulator (s : State) (k : FaultKind) : (s.setFault k).emulator = s.emulator := rfl

@[simp] theorem State.setFault_tests (s : State) (k : FaultKind) : (s.setFault k).tests = s.tests := rfl

@[simp] theorem State.setFault_freeCount (s : State) (k : FaultKind) : (s.setFault k).freeCount = s.freeCount := rfl

@[simp] theorem State.setFault_pending (s : State) (k : FaultKind) : (s.setFault k).pending = s.pending := rfl

/-! ### `State.clearTable` -/

@[simp] theorem State.clearTable_clock (s : State) : (s.clearTable).clock = s.clock := rfl

@[simp] theorem State.clearTable_line (s : State) : (s.clearTable).line = s.line := rfl

@[simp] theorem State.clearTable_timer (s : State) : (s.clearTable).timer = s.timer := rfl

@[simp] theorem State.clearTable_member (s : State) : (s.clearTable).member = s.member := rfl

@[simp] theorem State.clearTable_engine (s : State) :
    (s.clearTable).engine = ⟨List.replicate 8 Row.cleared, none⟩ := rfl

@[simp] theorem State.clearTable_sensor (s : State) : (s.clearTable).sensor = s.sensor := rfl

@[simp] theorem State.clearTable_faults (s : State) : (s.clearTable).faults = s.faults := rfl

@[simp] theorem State.clearTable_store (s : State) : (s.clearTable).store = s.store := rfl

@[simp] theorem State.clearTable_port (s : State) : (s.clearTable).port = s.port := rfl

@[simp] theorem State.clearTable_emulator (s : State) : (s.clearTable).emulator = s.emulator := rfl

@[simp] theorem State.clearTable_tests (s : State) : (s.clearTable).tests = s.tests := rfl

@[simp] theorem State.clearTable_freeCount (s : State) : (s.clearTable).freeCount = s.freeCount := rfl

@[simp] theorem State.clearTable_pending (s : State) : (s.clearTable).pending = s.pending := rfl

/-! ### `State.deliver` -/

@[simp] theorem State.deliver_clock (s : State) (l : List AdmittedSample) : (s.deliver l).clock = s.clock := rfl

@[simp] theorem State.deliver_line (s : State) (l : List AdmittedSample) : (s.deliver l).line = s.line := rfl

@[simp] theorem State.deliver_timer (s : State) (l : List AdmittedSample) : (s.deliver l).timer = s.timer := rfl

@[simp] theorem State.deliver_member (s : State) (l : List AdmittedSample) : (s.deliver l).member = s.member := rfl

@[simp] theorem State.deliver_sensor (s : State) (l : List AdmittedSample) : (s.deliver l).sensor = s.sensor := rfl

@[simp] theorem State.deliver_faults (s : State) (l : List AdmittedSample) : (s.deliver l).faults = s.faults := rfl

@[simp] theorem State.deliver_store (s : State) (l : List AdmittedSample) : (s.deliver l).store = s.store := rfl

@[simp] theorem State.deliver_port (s : State) (l : List AdmittedSample) : (s.deliver l).port = s.port := rfl

@[simp] theorem State.deliver_emulator (s : State) (l : List AdmittedSample) :
    (s.deliver l).emulator = s.emulator := rfl

@[simp] theorem State.deliver_tests (s : State) (l : List AdmittedSample) : (s.deliver l).tests = s.tests := rfl

@[simp] theorem State.deliver_freeCount (s : State) (l : List AdmittedSample) :
    (s.deliver l).freeCount = s.freeCount := rfl

@[simp] theorem State.deliver_pending (s : State) (l : List AdmittedSample) : (s.deliver l).pending = s.pending := rfl

/-! ### `State.realign` -/

@[simp] theorem State.realign_clock (s : State) : (s.realign).clock = s.clock := rfl

@[simp] theorem State.realign_line (s : State) : (s.realign).line = s.line := rfl

@[simp] theorem State.realign_timer (s : State) : (s.realign).timer = s.timer := rfl

@[simp] theorem State.realign_member (s : State) : (s.realign).member = s.member := rfl

@[simp] theorem State.realign_engine (s : State) : (s.realign).engine = s.engine := rfl

@[simp] theorem State.realign_sensor (s : State) :
    (s.realign).sensor = { s.sensor with excitation := s.timer.origin, conv := .acquire, acqCount := 0, window := [] } := rfl

@[simp] theorem State.realign_faults (s : State) : (s.realign).faults = s.faults := rfl

@[simp] theorem State.realign_store (s : State) : (s.realign).store = s.store := rfl

@[simp] theorem State.realign_port (s : State) : (s.realign).port = s.port := rfl

@[simp] theorem State.realign_emulator (s : State) : (s.realign).emulator = s.emulator := rfl

@[simp] theorem State.realign_tests (s : State) : (s.realign).tests = s.tests := rfl

@[simp] theorem State.realign_freeCount (s : State) : (s.realign).freeCount = s.freeCount := rfl

@[simp] theorem State.realign_pending (s : State) : (s.realign).pending = s.pending := rfl

/-! ### `State.enterActive` -/

@[simp] theorem State.enterActive_clock (s : State) : (s.enterActive).clock = s.clock := rfl

@[simp] theorem State.enterActive_line (s : State) : (s.enterActive).line = s.line := rfl

@[simp] theorem State.enterActive_timer (s : State) : (s.enterActive).timer = s.timer := rfl

@[simp] theorem State.enterActive_member (s : State) :
    (s.enterActive).member = { s.member with selfState := .active, unheardRun := 0 } := rfl

@[simp] theorem State.enterActive_engine (s : State) : (s.enterActive).engine = s.engine := rfl

@[simp] theorem State.enterActive_sensor (s : State) : (s.enterActive).sensor = s.sensor := rfl

@[simp] theorem State.enterActive_faults (s : State) : (s.enterActive).faults = s.faults := rfl

@[simp] theorem State.enterActive_store (s : State) : (s.enterActive).store = s.store := rfl

@[simp] theorem State.enterActive_port (s : State) : (s.enterActive).port = s.port := rfl

@[simp] theorem State.enterActive_emulator (s : State) : (s.enterActive).emulator = s.emulator := rfl

@[simp] theorem State.enterActive_tests (s : State) : (s.enterActive).tests = s.tests := rfl

@[simp] theorem State.enterActive_freeCount (s : State) : (s.enterActive).freeCount = s.freeCount := rfl

@[simp] theorem State.enterActive_pending (s : State) : (s.enterActive).pending = s.pending := rfl

/-! ### `State.enterWithdrawn` -/

@[simp] theorem State.enterWithdrawn_clock (s : State) : (s.enterWithdrawn).clock = s.clock := rfl

@[simp] theorem State.enterWithdrawn_line (s : State) : (s.enterWithdrawn).line = s.line := rfl

@[simp] theorem State.enterWithdrawn_timer (s : State) :
    (s.enterWithdrawn).timer = { s.timer with deadline := none } := rfl

@[simp] theorem State.enterWithdrawn_member (s : State) :
    (s.enterWithdrawn).member = { s.member with selfState := .withdrawn } := rfl

@[simp] theorem State.enterWithdrawn_engine (s : State) : (s.enterWithdrawn).engine = s.engine := rfl

@[simp] theorem State.enterWithdrawn_sensor (s : State) : (s.enterWithdrawn).sensor = s.sensor := rfl

@[simp] theorem State.enterWithdrawn_faults (s : State) : (s.enterWithdrawn).faults = s.faults := rfl

@[simp] theorem State.enterWithdrawn_store (s : State) : (s.enterWithdrawn).store = s.store := rfl

@[simp] theorem State.enterWithdrawn_port (s : State) : (s.enterWithdrawn).port = s.port := rfl

@[simp] theorem State.enterWithdrawn_emulator (s : State) : (s.enterWithdrawn).emulator = s.emulator := rfl

@[simp] theorem State.enterWithdrawn_tests (s : State) : (s.enterWithdrawn).tests = s.tests := rfl

@[simp] theorem State.enterWithdrawn_freeCount (s : State) : (s.enterWithdrawn).freeCount = s.freeCount := rfl

@[simp] theorem State.enterWithdrawn_pending (s : State) : (s.enterWithdrawn).pending = s.pending := rfl

/-! ### `State.fallToListen` -/

@[simp] theorem State.fallToListen_clock (s : State) : (s.fallToListen).clock = s.clock := rfl

@[simp] theorem State.fallToListen_line (s : State) : (s.fallToListen).line = s.line := rfl

@[simp] theorem State.fallToListen_timer (s : State) :
    (s.fallToListen).timer = { s.timer with deadline := none, listenTimer := 0 } := rfl

@[simp] theorem State.fallToListen_engine (s : State) :
    (s.fallToListen).engine = ⟨List.replicate 8 Row.cleared, none⟩ := rfl

@[simp] theorem State.fallToListen_sensor (s : State) : (s.fallToListen).sensor = s.sensor := rfl

@[simp] theorem State.fallToListen_faults (s : State) : (s.fallToListen).faults = s.faults := rfl

@[simp] theorem State.fallToListen_store (s : State) : (s.fallToListen).store = s.store := rfl

@[simp] theorem State.fallToListen_port (s : State) : (s.fallToListen).port = s.port := rfl

@[simp] theorem State.fallToListen_emulator (s : State) : (s.fallToListen).emulator = s.emulator := rfl

@[simp] theorem State.fallToListen_tests (s : State) : (s.fallToListen).tests = s.tests := rfl

@[simp] theorem State.fallToListen_freeCount (s : State) : (s.fallToListen).freeCount = s.freeCount := rfl

@[simp] theorem State.fallToListen_pending (s : State) : (s.fallToListen).pending = s.pending := rfl

/-! ### `State.unbindOwn` -/

@[simp] theorem State.unbindOwn_clock (s : State) : (s.unbindOwn).clock = s.clock := rfl

@[simp] theorem State.unbindOwn_line (s : State) : (s.unbindOwn).line = s.line := rfl

@[simp] theorem State.unbindOwn_timer (s : State) : (s.unbindOwn).timer = s.timer := rfl

@[simp] theorem State.unbindOwn_member (s : State) :
    (s.unbindOwn).member = { s.member with ownBound := false, ownRefused := false } := rfl

@[simp] theorem State.unbindOwn_engine (s : State) :
    (s.unbindOwn).engine = { s.engine with rows := (unbindRows s.timer.epoch s.engine.rows s.member.ownStation).1 } := rfl

@[simp] theorem State.unbindOwn_sensor (s : State) : (s.unbindOwn).sensor = s.sensor := rfl

@[simp] theorem State.unbindOwn_faults (s : State) : (s.unbindOwn).faults = s.faults := rfl

@[simp] theorem State.unbindOwn_store (s : State) : (s.unbindOwn).store = s.store := rfl

@[simp] theorem State.unbindOwn_port (s : State) : (s.unbindOwn).port = s.port := rfl

@[simp] theorem State.unbindOwn_emulator (s : State) : (s.unbindOwn).emulator = s.emulator := rfl

@[simp] theorem State.unbindOwn_tests (s : State) : (s.unbindOwn).tests = s.tests := rfl

@[simp] theorem State.unbindOwn_freeCount (s : State) : (s.unbindOwn).freeCount = s.freeCount := rfl

@[simp] theorem State.unbindOwn_pending (s : State) : (s.unbindOwn).pending = s.pending := rfl

/-! ### `State.unbindPeer` -/

@[simp] theorem State.unbindPeer_clock (s : State) (k : Station) : (s.unbindPeer k).clock = s.clock := rfl

@[simp] theorem State.unbindPeer_line (s : State) (k : Station) : (s.unbindPeer k).line = s.line := rfl

@[simp] theorem State.unbindPeer_timer (s : State) (k : Station) : (s.unbindPeer k).timer = s.timer := rfl

@[simp] theorem State.unbindPeer_member (s : State) (k : Station) : (s.unbindPeer k).member = s.member := rfl

@[simp] theorem State.unbindPeer_engine (s : State) (k : Station) :
    (s.unbindPeer k).engine = { s.engine with rows := (unbindRows s.timer.epoch s.engine.rows k).1 } := rfl

@[simp] theorem State.unbindPeer_sensor (s : State) (k : Station) : (s.unbindPeer k).sensor = s.sensor := rfl

@[simp] theorem State.unbindPeer_faults (s : State) (k : Station) : (s.unbindPeer k).faults = s.faults := rfl

@[simp] theorem State.unbindPeer_store (s : State) (k : Station) : (s.unbindPeer k).store = s.store := rfl

@[simp] theorem State.unbindPeer_port (s : State) (k : Station) :
    (s.unbindPeer k).port = s.port.appendAll (unbindRows s.timer.epoch s.engine.rows k).2 := rfl

@[simp] theorem State.unbindPeer_emulator (s : State) (k : Station) : (s.unbindPeer k).emulator = s.emulator := rfl

@[simp] theorem State.unbindPeer_tests (s : State) (k : Station) : (s.unbindPeer k).tests = s.tests := rfl

@[simp] theorem State.unbindPeer_freeCount (s : State) (k : Station) : (s.unbindPeer k).freeCount = s.freeCount := rfl

@[simp] theorem State.unbindPeer_pending (s : State) (k : Station) : (s.unbindPeer k).pending = s.pending := rfl

/-! ### `State.markSensor` -/

@[simp] theorem State.markSensor_clock (s : State) (m : MarkInputs) : (s.markSensor m).clock = s.clock := rfl

@[simp] theorem State.markSensor_line (s : State) (m : MarkInputs) : (s.markSensor m).line = s.line := rfl

@[simp] theorem State.markSensor_timer (s : State) (m : MarkInputs) : (s.markSensor m).timer = s.timer := rfl

@[simp] theorem State.markSensor_member (s : State) (m : MarkInputs) : (s.markSensor m).member = s.member := rfl

@[simp] theorem State.markSensor_engine (s : State) (m : MarkInputs) : (s.markSensor m).engine = s.engine := rfl

@[simp] theorem State.markSensor_sensor (s : State) (m : MarkInputs) :
    (s.markSensor m).sensor = s.sensor.mark m s.tests.injected s.tests.samplesUnderTest := rfl

@[simp] theorem State.markSensor_faults (s : State) (m : MarkInputs) : (s.markSensor m).faults = s.faults := rfl

@[simp] theorem State.markSensor_store (s : State) (m : MarkInputs) : (s.markSensor m).store = s.store := rfl

@[simp] theorem State.markSensor_port (s : State) (m : MarkInputs) : (s.markSensor m).port = s.port := rfl

@[simp] theorem State.markSensor_emulator (s : State) (m : MarkInputs) : (s.markSensor m).emulator = s.emulator := rfl

@[simp] theorem State.markSensor_tests (s : State) (m : MarkInputs) : (s.markSensor m).tests = s.tests := rfl

@[simp] theorem State.markSensor_freeCount (s : State) (m : MarkInputs) :
    (s.markSensor m).freeCount = s.freeCount := rfl

@[simp] theorem State.markSensor_pending (s : State) (m : MarkInputs) : (s.markSensor m).pending = s.pending := rfl

/-! ### `State.publish` -/

@[simp] theorem State.publish_clock (s : State) (rows : List Row) (e : Epoch) :
    (s.publish rows e).clock = s.clock := rfl

@[simp] theorem State.publish_line (s : State) (rows : List Row) (e : Epoch) : (s.publish rows e).line = s.line := rfl

@[simp] theorem State.publish_timer (s : State) (rows : List Row) (e : Epoch) :
    (s.publish rows e).timer = s.timer := rfl

@[simp] theorem State.publish_member (s : State) (rows : List Row) (e : Epoch) :
    (s.publish rows e).member = s.member := rfl

@[simp] theorem State.publish_engine (s : State) (rows : List Row) (e : Epoch) :
    (s.publish rows e).engine = s.engine := rfl

@[simp] theorem State.publish_sensor (s : State) (rows : List Row) (e : Epoch) :
    (s.publish rows e).sensor = s.sensor := rfl

@[simp] theorem State.publish_faults (s : State) (rows : List Row) (e : Epoch) :
    (s.publish rows e).faults = s.faults := rfl

@[simp] theorem State.publish_store (s : State) (rows : List Row) (e : Epoch) :
    (s.publish rows e).store = s.store.publish (s.publishedPage rows e) s.clock := rfl

@[simp] theorem State.publish_tests (s : State) (rows : List Row) (e : Epoch) :
    (s.publish rows e).tests = s.tests := rfl

@[simp] theorem State.publish_freeCount (s : State) (rows : List Row) (e : Epoch) :
    (s.publish rows e).freeCount = s.freeCount := rfl

@[simp] theorem State.publish_pending (s : State) (rows : List Row) (e : Epoch) :
    (s.publish rows e).pending = s.pending := rfl

/-! ### `State.count` -/

@[simp] theorem State.count_clock (s : State) : (s.count).clock = s.clock + 1 := rfl

@[simp] theorem State.count_line (s : State) : (s.count).line = s.line := rfl

@[simp] theorem State.count_timer (s : State) :
    (s.count).timer = { s.timer with listenTimer := min s.listenLimit (s.timer.listenTimer + 1) } := rfl

@[simp] theorem State.count_member (s : State) : (s.count).member = s.member := rfl

@[simp] theorem State.count_engine (s : State) : (s.count).engine = s.engine := rfl

@[simp] theorem State.count_sensor (s : State) : (s.count).sensor = s.sensor := rfl

@[simp] theorem State.count_faults (s : State) : (s.count).faults = s.faults := rfl

@[simp] theorem State.count_store (s : State) : (s.count).store = s.store := rfl

@[simp] theorem State.count_port (s : State) : (s.count).port = s.port := rfl

@[simp] theorem State.count_emulator (s : State) : (s.count).emulator = s.emulator := rfl

@[simp] theorem State.count_tests (s : State) : (s.count).tests = s.tests := rfl

@[simp] theorem State.count_freeCount (s : State) : (s.count).freeCount = s.freeCount := rfl

@[simp] theorem State.count_pending (s : State) : (s.count).pending = s.pending := rfl

/-! ### `State.tick` -/

@[simp] theorem State.tick_clock (s : State) : (s.tick).clock = s.clock + 1 := rfl

@[simp] theorem State.tick_line (s : State) : (s.tick).line = s.line := rfl

@[simp] theorem State.tick_timer (s : State) :
    (s.tick).timer = { s.timer with listenTimer := min s.listenLimit (s.timer.listenTimer + 1) } := rfl

@[simp] theorem State.tick_member (s : State) : (s.tick).member = s.member := rfl

@[simp] theorem State.tick_engine (s : State) : (s.tick).engine = s.engine := rfl

@[simp] theorem State.tick_sensor (s : State) : (s.tick).sensor = s.sensor := rfl

@[simp] theorem State.tick_faults (s : State) : (s.tick).faults = s.faults := rfl

@[simp] theorem State.tick_store (s : State) : (s.tick).store = s.store := rfl

@[simp] theorem State.tick_port (s : State) : (s.tick).port = s.port := rfl

@[simp] theorem State.tick_emulator (s : State) : (s.tick).emulator = s.emulator := rfl

@[simp] theorem State.tick_tests (s : State) : (s.tick).tests = s.tests := rfl

@[simp] theorem State.tick_freeCount (s : State) : (s.tick).freeCount = s.freeCount := rfl

@[simp] theorem State.tick_pending (s : State) : (s.tick).pending = s.pending ++ s.count.due := rfl

/-! ### `State.postFaultChange` -/

@[simp] theorem State.postFaultChange_clock (s : State) (b : FaultSet) :
    (s.postFaultChange b).clock = s.clock := by unfold State.postFaultChange; split <;> rfl

@[simp] theorem State.postFaultChange_timer (s : State) (b : FaultSet) :
    (s.postFaultChange b).timer = s.timer := by unfold State.postFaultChange; split <;> rfl

@[simp] theorem State.postFaultChange_member (s : State) (b : FaultSet) :
    (s.postFaultChange b).member = s.member := by unfold State.postFaultChange; split <;> rfl

@[simp] theorem State.postFaultChange_engine (s : State) (b : FaultSet) :
    (s.postFaultChange b).engine = s.engine := by unfold State.postFaultChange; split <;> rfl

@[simp] theorem State.postFaultChange_sensor (s : State) (b : FaultSet) :
    (s.postFaultChange b).sensor = s.sensor := by unfold State.postFaultChange; split <;> rfl

@[simp] theorem State.postFaultChange_faults (s : State) (b : FaultSet) :
    (s.postFaultChange b).faults = s.faults := by unfold State.postFaultChange; split <;> rfl

@[simp] theorem State.postFaultChange_store (s : State) (b : FaultSet) :
    (s.postFaultChange b).store = s.store := by unfold State.postFaultChange; split <;> rfl

@[simp] theorem State.postFaultChange_port (s : State) (b : FaultSet) :
    (s.postFaultChange b).port = s.port := by unfold State.postFaultChange; split <;> rfl

@[simp] theorem State.postFaultChange_emulator (s : State) (b : FaultSet) :
    (s.postFaultChange b).emulator = s.emulator := by unfold State.postFaultChange; split <;> rfl

@[simp] theorem State.postFaultChange_tests (s : State) (b : FaultSet) :
    (s.postFaultChange b).tests = s.tests := by unfold State.postFaultChange; split <;> rfl

@[simp] theorem State.postFaultChange_freeCount (s : State) (b : FaultSet) :
    (s.postFaultChange b).freeCount = s.freeCount := by unfold State.postFaultChange; split <;> rfl

@[simp] theorem State.postFaultChange_pending (s : State) (b : FaultSet) :
    (s.postFaultChange b).pending = s.pending := by unfold State.postFaultChange; split <;> rfl

/-! ### `State.armDeadline` -/

@[simp] theorem State.armDeadline_clock (s : State) :
    (s.armDeadline).clock = s.clock := by unfold State.armDeadline; split <;> first | rfl | (dsimp only; split <;> rfl)

@[simp] theorem State.armDeadline_member (s : State) :
    (s.armDeadline).member = s.member := by unfold State.armDeadline; split <;> first | rfl | (dsimp only; split <;> rfl)

@[simp] theorem State.armDeadline_engine (s : State) :
    (s.armDeadline).engine = s.engine := by unfold State.armDeadline; split <;> first | rfl | (dsimp only; split <;> rfl)

@[simp] theorem State.armDeadline_sensor (s : State) :
    (s.armDeadline).sensor = s.sensor := by unfold State.armDeadline; split <;> first | rfl | (dsimp only; split <;> rfl)

@[simp] theorem State.armDeadline_faults (s : State) :
    (s.armDeadline).faults = s.faults := by unfold State.armDeadline; split <;> first | rfl | (dsimp only; split <;> rfl)

@[simp] theorem State.armDeadline_store (s : State) :
    (s.armDeadline).store = s.store := by unfold State.armDeadline; split <;> first | rfl | (dsimp only; split <;> rfl)

@[simp] theorem State.armDeadline_port (s : State) :
    (s.armDeadline).port = s.port := by unfold State.armDeadline; split <;> first | rfl | (dsimp only; split <;> rfl)

@[simp] theorem State.armDeadline_emulator (s : State) :
    (s.armDeadline).emulator = s.emulator := by unfold State.armDeadline; split <;> first | rfl | (dsimp only; split <;> rfl)

@[simp] theorem State.armDeadline_tests (s : State) :
    (s.armDeadline).tests = s.tests := by unfold State.armDeadline; split <;> first | rfl | (dsimp only; split <;> rfl)

@[simp] theorem State.armDeadline_freeCount (s : State) :
    (s.armDeadline).freeCount = s.freeCount := by unfold State.armDeadline; split <;> first | rfl | (dsimp only; split <;> rfl)

@[simp] theorem State.armDeadline_pending (s : State) :
    (s.armDeadline).pending = s.pending := by unfold State.armDeadline; split <;> first | rfl | (dsimp only; split <;> rfl)

/-! ### `State.endEffects` -/

@[simp] theorem State.endEffects_clock (s : State) (c : TestCode) :
    (s.endEffects c).clock = s.clock := by cases c <;> rfl

@[simp] theorem State.endEffects_line (s : State) (c : TestCode) :
    (s.endEffects c).line = s.line := by cases c <;> rfl

@[simp] theorem State.endEffects_timer (s : State) (c : TestCode) :
    (s.endEffects c).timer = s.timer := by cases c <;> rfl

@[simp] theorem State.endEffects_member (s : State) (c : TestCode) :
    (s.endEffects c).member = s.member := by cases c <;> rfl

@[simp] theorem State.endEffects_faults (s : State) (c : TestCode) :
    (s.endEffects c).faults = s.faults := by cases c <;> rfl

@[simp] theorem State.endEffects_store (s : State) (c : TestCode) :
    (s.endEffects c).store = s.store := by cases c <;> rfl

@[simp] theorem State.endEffects_port (s : State) (c : TestCode) :
    (s.endEffects c).port = s.port := by cases c <;> rfl

@[simp] theorem State.endEffects_tests (s : State) (c : TestCode) :
    (s.endEffects c).tests = s.tests := by cases c <;> rfl

@[simp] theorem State.endEffects_freeCount (s : State) (c : TestCode) :
    (s.endEffects c).freeCount = s.freeCount := by cases c <;> rfl

@[simp] theorem State.endEffects_pending (s : State) (c : TestCode) :
    (s.endEffects c).pending = s.pending := by cases c <;> rfl

/-! ### `State.finishTest` -/

@[simp] theorem State.finishTest_clock (s : State) (c : TestCode) (o : TestOutcome) :
    (s.finishTest c o).clock = s.clock := by cases c <;> rfl

@[simp] theorem State.finishTest_line (s : State) (c : TestCode) (o : TestOutcome) :
    (s.finishTest c o).line = s.line := by cases c <;> rfl

@[simp] theorem State.finishTest_timer (s : State) (c : TestCode) (o : TestOutcome) :
    (s.finishTest c o).timer = s.timer := by cases c <;> rfl

@[simp] theorem State.finishTest_member (s : State) (c : TestCode) (o : TestOutcome) :
    (s.finishTest c o).member = s.member := by cases c <;> rfl

@[simp] theorem State.finishTest_faults (s : State) (c : TestCode) (o : TestOutcome) :
    (s.finishTest c o).faults = s.faults := by cases c <;> rfl

@[simp] theorem State.finishTest_store (s : State) (c : TestCode) (o : TestOutcome) :
    (s.finishTest c o).store = s.store := by cases c <;> rfl

@[simp] theorem State.finishTest_port (s : State) (c : TestCode) (o : TestOutcome) :
    (s.finishTest c o).port = s.port := by cases c <;> rfl

@[simp] theorem State.finishTest_tests (s : State) (c : TestCode) (o : TestOutcome) :
    (s.finishTest c o).tests = ⟨none, some ⟨c, o, some s.timer.epoch⟩⟩ := by cases c <;> rfl

@[simp] theorem State.finishTest_freeCount (s : State) (c : TestCode) (o : TestOutcome) :
    (s.finishTest c o).freeCount = s.freeCount := by cases c <;> rfl

@[simp] theorem State.finishTest_pending (s : State) (c : TestCode) (o : TestOutcome) :
    (s.finishTest c o).pending = s.pending := by cases c <;> rfl

/-! ### `State.postTestEnd` -/

@[simp] theorem State.postTestEnd_clock (s : State) (c : TestCode) (o : TestOutcome) :
    (s.postTestEnd c o).clock = s.clock := by unfold State.postTestEnd; split <;> rfl

@[simp] theorem State.postTestEnd_timer (s : State) (c : TestCode) (o : TestOutcome) :
    (s.postTestEnd c o).timer = s.timer := by unfold State.postTestEnd; split <;> rfl

@[simp] theorem State.postTestEnd_member (s : State) (c : TestCode) (o : TestOutcome) :
    (s.postTestEnd c o).member = s.member := by unfold State.postTestEnd; split <;> rfl

@[simp] theorem State.postTestEnd_engine (s : State) (c : TestCode) (o : TestOutcome) :
    (s.postTestEnd c o).engine = s.engine := by unfold State.postTestEnd; split <;> rfl

@[simp] theorem State.postTestEnd_sensor (s : State) (c : TestCode) (o : TestOutcome) :
    (s.postTestEnd c o).sensor = s.sensor := by unfold State.postTestEnd; split <;> rfl

@[simp] theorem State.postTestEnd_faults (s : State) (c : TestCode) (o : TestOutcome) :
    (s.postTestEnd c o).faults = s.faults := by unfold State.postTestEnd; split <;> rfl

@[simp] theorem State.postTestEnd_store (s : State) (c : TestCode) (o : TestOutcome) :
    (s.postTestEnd c o).store = s.store := by unfold State.postTestEnd; split <;> rfl

@[simp] theorem State.postTestEnd_port (s : State) (c : TestCode) (o : TestOutcome) :
    (s.postTestEnd c o).port = s.port := by unfold State.postTestEnd; split <;> rfl

@[simp] theorem State.postTestEnd_emulator (s : State) (c : TestCode) (o : TestOutcome) :
    (s.postTestEnd c o).emulator = s.emulator := by unfold State.postTestEnd; split <;> rfl

@[simp] theorem State.postTestEnd_tests (s : State) (c : TestCode) (o : TestOutcome) :
    (s.postTestEnd c o).tests = s.tests := by unfold State.postTestEnd; split <;> rfl

@[simp] theorem State.postTestEnd_freeCount (s : State) (c : TestCode) (o : TestOutcome) :
    (s.postTestEnd c o).freeCount = s.freeCount := by unfold State.postTestEnd; split <;> rfl

@[simp] theorem State.postTestEnd_pending (s : State) (c : TestCode) (o : TestOutcome) :
    (s.postTestEnd c o).pending = s.pending := by unfold State.postTestEnd; split <;> rfl

/-! ### `State.failSelfTest` -/

@[simp] theorem State.failSelfTest_clock (s : State) :
    (s.failSelfTest).clock = s.clock := by simp [State.failSelfTest]

@[simp] theorem State.failSelfTest_timer (s : State) :
    (s.failSelfTest).timer = s.timer := by simp [State.failSelfTest]

@[simp] theorem State.failSelfTest_member (s : State) :
    (s.failSelfTest).member = s.member := by simp [State.failSelfTest]

@[simp] theorem State.failSelfTest_engine (s : State) :
    (s.failSelfTest).engine = s.engine := by simp [State.failSelfTest]

@[simp] theorem State.failSelfTest_sensor (s : State) :
    (s.failSelfTest).sensor = s.sensor := by simp [State.failSelfTest]

@[simp] theorem State.failSelfTest_faults (s : State) :
    (s.failSelfTest).faults = s.faults.set .selfTest := by simp [State.failSelfTest]

@[simp] theorem State.failSelfTest_store (s : State) :
    (s.failSelfTest).store = s.store := by simp [State.failSelfTest]

@[simp] theorem State.failSelfTest_port (s : State) : (s.failSelfTest).port = s.port := by simp [State.failSelfTest]

@[simp] theorem State.failSelfTest_emulator (s : State) :
    (s.failSelfTest).emulator = s.emulator := by simp [State.failSelfTest]

@[simp] theorem State.failSelfTest_tests (s : State) :
    (s.failSelfTest).tests = s.tests := by simp [State.failSelfTest]

@[simp] theorem State.failSelfTest_freeCount (s : State) :
    (s.failSelfTest).freeCount = s.freeCount := by simp [State.failSelfTest]

@[simp] theorem State.failSelfTest_pending (s : State) :
    (s.failSelfTest).pending = s.pending := by simp [State.failSelfTest]

/-! ### `State.endTest` -/

@[simp] theorem State.endTest_clock (s : State) (c : TestCode) (o : TestOutcome) :
    (s.endTest c o).clock = s.clock := by cases o <;> simp [State.endTest]

@[simp] theorem State.endTest_timer (s : State) (c : TestCode) (o : TestOutcome) :
    (s.endTest c o).timer = s.timer := by cases o <;> simp [State.endTest]

@[simp] theorem State.endTest_member (s : State) (c : TestCode) (o : TestOutcome) :
    (s.endTest c o).member = s.member := by cases o <;> simp [State.endTest]

@[simp] theorem State.endTest_store (s : State) (c : TestCode) (o : TestOutcome) :
    (s.endTest c o).store = s.store := by cases o <;> simp [State.endTest]

@[simp] theorem State.endTest_port (s : State) (c : TestCode) (o : TestOutcome) :
    (s.endTest c o).port = s.port := by cases o <;> simp [State.endTest]

@[simp] theorem State.endTest_tests (s : State) (c : TestCode) (o : TestOutcome) :
    (s.endTest c o).tests = ⟨none, some ⟨c, o, some s.timer.epoch⟩⟩ := by cases o <;> simp [State.endTest]

@[simp] theorem State.endTest_freeCount (s : State) (c : TestCode) (o : TestOutcome) :
    (s.endTest c o).freeCount = s.freeCount := by cases o <;> simp [State.endTest]

@[simp] theorem State.endTest_pending (s : State) (c : TestCode) (o : TestOutcome) :
    (s.endTest c o).pending = s.pending := by cases o <;> simp [State.endTest]

/-! ### `State.abortTest` -/

@[simp] theorem State.abortTest_clock (s : State) (w : AbortReason) :
    (s.abortTest w).clock = s.clock := by unfold State.abortTest; split <;> first | rfl | (split <;> simp)

@[simp] theorem State.abortTest_line (s : State) (w : AbortReason) :
    (s.abortTest w).line = s.line := by unfold State.abortTest; split <;> first | rfl | (split <;> simp)

@[simp] theorem State.abortTest_timer (s : State) (w : AbortReason) :
    (s.abortTest w).timer = s.timer := by unfold State.abortTest; split <;> first | rfl | (split <;> simp)

@[simp] theorem State.abortTest_member (s : State) (w : AbortReason) :
    (s.abortTest w).member = s.member := by unfold State.abortTest; split <;> first | rfl | (split <;> simp)

@[simp] theorem State.abortTest_faults (s : State) (w : AbortReason) :
    (s.abortTest w).faults = s.faults := by unfold State.abortTest; split <;> first | rfl | (split <;> simp)

@[simp] theorem State.abortTest_store (s : State) (w : AbortReason) :
    (s.abortTest w).store = s.store := by unfold State.abortTest; split <;> first | rfl | (split <;> simp)

@[simp] theorem State.abortTest_port (s : State) (w : AbortReason) :
    (s.abortTest w).port = s.port := by unfold State.abortTest; split <;> first | rfl | (split <;> simp)

@[simp] theorem State.abortTest_freeCount (s : State) (w : AbortReason) :
    (s.abortTest w).freeCount = s.freeCount := by unfold State.abortTest; split <;> first | rfl | (split <;> simp)

@[simp] theorem State.abortTest_pending (s : State) (w : AbortReason) :
    (s.abortTest w).pending = s.pending := by unfold State.abortTest; split <;> first | rfl | (split <;> simp)

/-! ### `State.stepTest` -/

@[simp] theorem State.stepTest_clock (s : State) (r : TestRun) :
    (s.stepTest r).clock = s.clock := by unfold State.stepTest; cases r.code <;> first | rfl | (simp only []; split <;> first | rfl | (split <;> rfl))

@[simp] theorem State.stepTest_line (s : State) (r : TestRun) :
    (s.stepTest r).line = s.line := by unfold State.stepTest; cases r.code <;> first | rfl | (simp only []; split <;> first | rfl | (split <;> rfl))

@[simp] theorem State.stepTest_timer (s : State) (r : TestRun) :
    (s.stepTest r).timer = s.timer := by unfold State.stepTest; cases r.code <;> first | rfl | (simp only []; split <;> first | rfl | (split <;> rfl))

@[simp] theorem State.stepTest_member (s : State) (r : TestRun) :
    (s.stepTest r).member = s.member := by unfold State.stepTest; cases r.code <;> first | rfl | (simp only []; split <;> first | rfl | (split <;> rfl))

@[simp] theorem State.stepTest_engine (s : State) (r : TestRun) :
    (s.stepTest r).engine = s.engine := by unfold State.stepTest; cases r.code <;> first | rfl | (simp only []; split <;> first | rfl | (split <;> rfl))

@[simp] theorem State.stepTest_faults (s : State) (r : TestRun) :
    (s.stepTest r).faults = s.faults := by unfold State.stepTest; cases r.code <;> first | rfl | (simp only []; split <;> first | rfl | (split <;> rfl))

@[simp] theorem State.stepTest_store (s : State) (r : TestRun) :
    (s.stepTest r).store = s.store := by unfold State.stepTest; cases r.code <;> first | rfl | (simp only []; split <;> first | rfl | (split <;> rfl))

@[simp] theorem State.stepTest_port (s : State) (r : TestRun) :
    (s.stepTest r).port = s.port := by unfold State.stepTest; cases r.code <;> first | rfl | (simp only []; split <;> first | rfl | (split <;> rfl))

@[simp] theorem State.stepTest_tests (s : State) (r : TestRun) :
    (s.stepTest r).tests = { s.tests with running := some ⟨r.code, r.step + 1, r.remaining - 1⟩ } := by unfold State.stepTest; cases r.code <;> first | rfl | (simp only []; split <;> first | rfl | (split <;> rfl))

@[simp] theorem State.stepTest_freeCount (s : State) (r : TestRun) :
    (s.stepTest r).freeCount = s.freeCount := by unfold State.stepTest; cases r.code <;> first | rfl | (simp only []; split <;> first | rfl | (split <;> rfl))

@[simp] theorem State.stepTest_pending (s : State) (r : TestRun) :
    (s.stepTest r).pending = s.pending := by unfold State.stepTest; cases r.code <;> first | rfl | (simp only []; split <;> first | rfl | (split <;> rfl))

/-! ### `State.testAtMark` -/

@[simp] theorem State.testAtMark_clock (s : State) (m : MarkInputs) :
    (s.testAtMark m).clock = s.clock := by unfold State.testAtMark; split <;> first | rfl | (split <;> first | rfl | (split <;> simp))

@[simp] theorem State.testAtMark_timer (s : State) (m : MarkInputs) :
    (s.testAtMark m).timer = s.timer := by unfold State.testAtMark; split <;> first | rfl | (split <;> first | rfl | (split <;> simp))

@[simp] theorem State.testAtMark_member (s : State) (m : MarkInputs) :
    (s.testAtMark m).member = s.member := by unfold State.testAtMark; split <;> first | rfl | (split <;> first | rfl | (split <;> simp))

@[simp] theorem State.testAtMark_store (s : State) (m : MarkInputs) :
    (s.testAtMark m).store = s.store := by unfold State.testAtMark; split <;> first | rfl | (split <;> first | rfl | (split <;> simp))

@[simp] theorem State.testAtMark_port (s : State) (m : MarkInputs) :
    (s.testAtMark m).port = s.port := by unfold State.testAtMark; split <;> first | rfl | (split <;> first | rfl | (split <;> simp))

@[simp] theorem State.testAtMark_freeCount (s : State) (m : MarkInputs) :
    (s.testAtMark m).freeCount = s.freeCount := by unfold State.testAtMark; split <;> first | rfl | (split <;> first | rfl | (split <;> simp))

@[simp] theorem State.testAtMark_pending (s : State) (m : MarkInputs) :
    (s.testAtMark m).pending = s.pending := by unfold State.testAtMark; split <;> first | rfl | (split <;> first | rfl | (split <;> simp))

/-! ### `State.holdSensorFaults` -/

@[simp] theorem State.holdSensorFaults_clock (s : State) :
    (s.holdSensorFaults).clock = s.clock := by simp [State.holdSensorFaults]

@[simp] theorem State.holdSensorFaults_timer (s : State) :
    (s.holdSensorFaults).timer = s.timer := by simp [State.holdSensorFaults]

@[simp] theorem State.holdSensorFaults_member (s : State) :
    (s.holdSensorFaults).member = s.member := by simp [State.holdSensorFaults]

@[simp] theorem State.holdSensorFaults_engine (s : State) :
    (s.holdSensorFaults).engine = s.engine := by simp [State.holdSensorFaults]

@[simp] theorem State.holdSensorFaults_sensor (s : State) :
    (s.holdSensorFaults).sensor = s.sensor := by simp [State.holdSensorFaults]

@[simp] theorem State.holdSensorFaults_faults (s : State) :
    (s.holdSensorFaults).faults = s.newSensorKinds.foldl FaultRegister.set s.faults := by simp [State.holdSensorFaults]

@[simp] theorem State.holdSensorFaults_store (s : State) :
    (s.holdSensorFaults).store = s.store := by simp [State.holdSensorFaults]

@[simp] theorem State.holdSensorFaults_port (s : State) :
    (s.holdSensorFaults).port = s.port := by simp [State.holdSensorFaults]

@[simp] theorem State.holdSensorFaults_emulator (s : State) :
    (s.holdSensorFaults).emulator = s.emulator := by simp [State.holdSensorFaults]

@[simp] theorem State.holdSensorFaults_tests (s : State) :
    (s.holdSensorFaults).tests = s.tests := by simp [State.holdSensorFaults]

@[simp] theorem State.holdSensorFaults_freeCount (s : State) :
    (s.holdSensorFaults).freeCount = s.freeCount := by simp [State.holdSensorFaults]

@[simp] theorem State.holdSensorFaults_pending (s : State) :
    (s.holdSensorFaults).pending = s.pending := by simp [State.holdSensorFaults]

/-! ### `State.clearFaults` -/

@[simp] theorem State.clearFaults_clock (s : State) : (s.clearFaults).clock = s.clock := by simp [State.clearFaults]

@[simp] theorem State.clearFaults_timer (s : State) : (s.clearFaults).timer = s.timer := by simp [State.clearFaults]

@[simp] theorem State.clearFaults_member (s : State) :
    (s.clearFaults).member = s.member := by simp [State.clearFaults]

@[simp] theorem State.clearFaults_engine (s : State) :
    (s.clearFaults).engine = s.engine := by simp [State.clearFaults]

@[simp] theorem State.clearFaults_sensor (s : State) :
    (s.clearFaults).sensor = s.sensor := by simp [State.clearFaults]

@[simp] theorem State.clearFaults_faults (s : State) :
    (s.clearFaults).faults = s.faults.clear s.sensor.liveKinds := by simp [State.clearFaults]

@[simp] theorem State.clearFaults_store (s : State) : (s.clearFaults).store = s.store := by simp [State.clearFaults]

@[simp] theorem State.clearFaults_port (s : State) : (s.clearFaults).port = s.port := by simp [State.clearFaults]

@[simp] theorem State.clearFaults_emulator (s : State) :
    (s.clearFaults).emulator = s.emulator := by simp [State.clearFaults]

@[simp] theorem State.clearFaults_tests (s : State) : (s.clearFaults).tests = s.tests := by simp [State.clearFaults]

@[simp] theorem State.clearFaults_freeCount (s : State) :
    (s.clearFaults).freeCount = s.freeCount := by simp [State.clearFaults]

@[simp] theorem State.clearFaults_pending (s : State) :
    (s.clearFaults).pending = s.pending := by simp [State.clearFaults]

/-! ### `State.enterJoining` -/

@[simp] theorem State.enterJoining_clock (s : State) :
    (s.enterJoining).clock = s.clock := by simp [State.enterJoining]

@[simp] theorem State.enterJoining_faults (s : State) :
    (s.enterJoining).faults = s.faults := by simp [State.enterJoining]

@[simp] theorem State.enterJoining_store (s : State) :
    (s.enterJoining).store = s.store := by simp [State.enterJoining]

@[simp] theorem State.enterJoining_port (s : State) : (s.enterJoining).port = s.port := by simp [State.enterJoining]

@[simp] theorem State.enterJoining_freeCount (s : State) :
    (s.enterJoining).freeCount = s.freeCount := by simp [State.enterJoining]

@[simp] theorem State.enterJoining_pending (s : State) :
    (s.enterJoining).pending = s.pending := by simp [State.enterJoining]

/-! ### `State.enterLockout` -/

@[simp] theorem State.enterLockout_clock (s : State) :
    (s.enterLockout).clock = s.clock := by unfold State.enterLockout; split <;> simp

@[simp] theorem State.enterLockout_faults (s : State) :
    (s.enterLockout).faults = s.faults := by unfold State.enterLockout; split <;> simp

@[simp] theorem State.enterLockout_store (s : State) :
    (s.enterLockout).store = s.store := by unfold State.enterLockout; split <;> simp

@[simp] theorem State.enterLockout_port (s : State) :
    (s.enterLockout).port = s.port := by unfold State.enterLockout; split <;> simp

@[simp] theorem State.enterLockout_freeCount (s : State) :
    (s.enterLockout).freeCount = s.freeCount := by unfold State.enterLockout; split <;> simp

@[simp] theorem State.enterLockout_pending (s : State) :
    (s.enterLockout).pending = s.pending := by unfold State.enterLockout; split <;> simp

/-! ### `State.startTest` -/

@[simp] theorem State.startTest_clock (s : State) (c : TestCode) :
    (s.startTest c).clock = s.clock := by unfold State.startTest; cases c <;> (simp only []; split <;> rfl)

@[simp] theorem State.startTest_timer (s : State) (c : TestCode) :
    (s.startTest c).timer = s.timer := by unfold State.startTest; cases c <;> (simp only []; split <;> rfl)

@[simp] theorem State.startTest_member (s : State) (c : TestCode) :
    (s.startTest c).member = s.member := by unfold State.startTest; cases c <;> (simp only []; split <;> rfl)

@[simp] theorem State.startTest_engine (s : State) (c : TestCode) :
    (s.startTest c).engine = s.engine := by unfold State.startTest; cases c <;> (simp only []; split <;> rfl)

@[simp] theorem State.startTest_faults (s : State) (c : TestCode) :
    (s.startTest c).faults = s.faults := by unfold State.startTest; cases c <;> (simp only []; split <;> rfl)

@[simp] theorem State.startTest_store (s : State) (c : TestCode) :
    (s.startTest c).store = s.store := by unfold State.startTest; cases c <;> (simp only []; split <;> rfl)

@[simp] theorem State.startTest_port (s : State) (c : TestCode) :
    (s.startTest c).port = s.port := by unfold State.startTest; cases c <;> (simp only []; split <;> rfl)

@[simp] theorem State.startTest_tests (s : State) (c : TestCode) :
    (s.startTest c).tests = ⟨some ⟨c, 0, c.length⟩, some ⟨c, .running, none⟩⟩ := by unfold State.startTest; cases c <;> (simp only []; split <;> rfl)

@[simp] theorem State.startTest_freeCount (s : State) (c : TestCode) :
    (s.startTest c).freeCount = s.freeCount := by unfold State.startTest; cases c <;> (simp only []; split <;> rfl)

@[simp] theorem State.startTest_pending (s : State) (c : TestCode) :
    (s.startTest c).pending = s.pending := by unfold State.startTest; cases c <;> (simp only []; split <;> rfl)

/-! ### `State.endVoteTest` -/

@[simp] theorem State.endVoteTest_clock (s : State) : (s.endVoteTest).clock = s.clock := by simp [State.endVoteTest]

@[simp] theorem State.endVoteTest_timer (s : State) : (s.endVoteTest).timer = s.timer := by simp [State.endVoteTest]

@[simp] theorem State.endVoteTest_member (s : State) :
    (s.endVoteTest).member = s.member := by simp [State.endVoteTest]

@[simp] theorem State.endVoteTest_store (s : State) : (s.endVoteTest).store = s.store := by simp [State.endVoteTest]

@[simp] theorem State.endVoteTest_freeCount (s : State) :
    (s.endVoteTest).freeCount = s.freeCount := by simp [State.endVoteTest]

@[simp] theorem State.endVoteTest_pending (s : State) :
    (s.endVoteTest).pending = s.pending := by simp [State.endVoteTest]

/-! ### `State.claimPeer` -/

@[simp] theorem State.claimPeer_clock (s : State) (k : Station) : (s.claimPeer k).clock = s.clock := rfl

@[simp] theorem State.claimPeer_line (s : State) (k : Station) : (s.claimPeer k).line = s.line := rfl

@[simp] theorem State.claimPeer_timer (s : State) (k : Station) : (s.claimPeer k).timer = s.timer := rfl

@[simp] theorem State.claimPeer_sensor (s : State) (k : Station) : (s.claimPeer k).sensor = s.sensor := rfl

@[simp] theorem State.claimPeer_faults (s : State) (k : Station) : (s.claimPeer k).faults = s.faults := rfl

@[simp] theorem State.claimPeer_store (s : State) (k : Station) : (s.claimPeer k).store = s.store := rfl

@[simp] theorem State.claimPeer_emulator (s : State) (k : Station) : (s.claimPeer k).emulator = s.emulator := rfl

@[simp] theorem State.claimPeer_tests (s : State) (k : Station) : (s.claimPeer k).tests = s.tests := rfl

@[simp] theorem State.claimPeer_freeCount (s : State) (k : Station) : (s.claimPeer k).freeCount = s.freeCount := rfl

@[simp] theorem State.claimPeer_pending (s : State) (k : Station) : (s.claimPeer k).pending = s.pending := rfl

/-! ### `State.claimOwn` -/

@[simp] theorem State.claimOwn_clock (s : State) : (s.claimOwn).clock = s.clock := rfl

@[simp] theorem State.claimOwn_line (s : State) : (s.claimOwn).line = s.line := rfl

@[simp] theorem State.claimOwn_timer (s : State) : (s.claimOwn).timer = s.timer := rfl

@[simp] theorem State.claimOwn_sensor (s : State) : (s.claimOwn).sensor = s.sensor := rfl

@[simp] theorem State.claimOwn_faults (s : State) : (s.claimOwn).faults = s.faults := rfl

@[simp] theorem State.claimOwn_store (s : State) : (s.claimOwn).store = s.store := rfl

@[simp] theorem State.claimOwn_emulator (s : State) : (s.claimOwn).emulator = s.emulator := rfl

@[simp] theorem State.claimOwn_tests (s : State) : (s.claimOwn).tests = s.tests := rfl

@[simp] theorem State.claimOwn_freeCount (s : State) : (s.claimOwn).freeCount = s.freeCount := rfl

@[simp] theorem State.claimOwn_pending (s : State) : (s.claimOwn).pending = s.pending := rfl

/-! ### `State.claim` -/

@[simp] theorem State.claim_clock (s : State) (k : Station) :
    (s.claim k).clock = s.clock := by unfold State.claim; split <;> (try simp only []) <;> split <;> simp

@[simp] theorem State.claim_line (s : State) (k : Station) :
    (s.claim k).line = s.line := by unfold State.claim; split <;> (try simp only []) <;> split <;> simp

@[simp] theorem State.claim_timer (s : State) (k : Station) :
    (s.claim k).timer = s.timer := by unfold State.claim; split <;> (try simp only []) <;> split <;> simp

@[simp] theorem State.claim_sensor (s : State) (k : Station) :
    (s.claim k).sensor = s.sensor := by unfold State.claim; split <;> (try simp only []) <;> split <;> simp

@[simp] theorem State.claim_faults (s : State) (k : Station) :
    (s.claim k).faults = s.faults := by unfold State.claim; split <;> (try simp only []) <;> split <;> simp

@[simp] theorem State.claim_store (s : State) (k : Station) :
    (s.claim k).store = s.store := by unfold State.claim; split <;> (try simp only []) <;> split <;> simp

@[simp] theorem State.claim_emulator (s : State) (k : Station) :
    (s.claim k).emulator = s.emulator := by unfold State.claim; split <;> (try simp only []) <;> split <;> simp

@[simp] theorem State.claim_tests (s : State) (k : Station) :
    (s.claim k).tests = s.tests := by unfold State.claim; split <;> (try simp only []) <;> split <;> simp

@[simp] theorem State.claim_freeCount (s : State) (k : Station) :
    (s.claim k).freeCount = s.freeCount := by unfold State.claim; split <;> (try simp only []) <;> split <;> simp

@[simp] theorem State.claim_pending (s : State) (k : Station) :
    (s.claim k).pending = s.pending := by unfold State.claim; split <;> (try simp only []) <;> split <;> simp

/-! ### `State.hearPeer` -/

@[simp] theorem State.hearPeer_clock (s : State) (k : Station) (f : FrameRecord) :
    (s.hearPeer k f).clock = s.clock := by simp only [State.hearPeer]; split <;> split <;> simp

@[simp] theorem State.hearPeer_line (s : State) (k : Station) (f : FrameRecord) :
    (s.hearPeer k f).line = s.line := by simp only [State.hearPeer]; split <;> split <;> simp

@[simp] theorem State.hearPeer_timer (s : State) (k : Station) (f : FrameRecord) :
    (s.hearPeer k f).timer = s.timer := by simp only [State.hearPeer]; split <;> split <;> simp

@[simp] theorem State.hearPeer_sensor (s : State) (k : Station) (f : FrameRecord) :
    (s.hearPeer k f).sensor = s.sensor := by simp only [State.hearPeer]; split <;> split <;> simp

@[simp] theorem State.hearPeer_faults (s : State) (k : Station) (f : FrameRecord) :
    (s.hearPeer k f).faults = s.faults := by simp only [State.hearPeer]; split <;> split <;> simp

@[simp] theorem State.hearPeer_store (s : State) (k : Station) (f : FrameRecord) :
    (s.hearPeer k f).store = s.store := by simp only [State.hearPeer]; split <;> split <;> simp

@[simp] theorem State.hearPeer_emulator (s : State) (k : Station) (f : FrameRecord) :
    (s.hearPeer k f).emulator = s.emulator := by simp only [State.hearPeer]; split <;> split <;> simp

@[simp] theorem State.hearPeer_tests (s : State) (k : Station) (f : FrameRecord) :
    (s.hearPeer k f).tests = s.tests := by simp only [State.hearPeer]; split <;> split <;> simp

@[simp] theorem State.hearPeer_freeCount (s : State) (k : Station) (f : FrameRecord) :
    (s.hearPeer k f).freeCount = s.freeCount := by simp only [State.hearPeer]; split <;> split <;> simp

@[simp] theorem State.hearPeer_pending (s : State) (k : Station) (f : FrameRecord) :
    (s.hearPeer k f).pending = s.pending := by simp only [State.hearPeer]; split <;> split <;> simp

/-! ### `State.missPeer` -/

@[simp] theorem State.missPeer_clock (s : State) (k : Station) :
    (s.missPeer k).clock = s.clock := by simp only [State.missPeer]; split <;> first | rfl | (split <;> first | rfl | (split <;> simp))

@[simp] theorem State.missPeer_line (s : State) (k : Station) :
    (s.missPeer k).line = s.line := by simp only [State.missPeer]; split <;> first | rfl | (split <;> first | rfl | (split <;> simp))

@[simp] theorem State.missPeer_timer (s : State) (k : Station) :
    (s.missPeer k).timer = s.timer := by simp only [State.missPeer]; split <;> first | rfl | (split <;> first | rfl | (split <;> simp))

@[simp] theorem State.missPeer_sensor (s : State) (k : Station) :
    (s.missPeer k).sensor = s.sensor := by simp only [State.missPeer]; split <;> first | rfl | (split <;> first | rfl | (split <;> simp))

@[simp] theorem State.missPeer_faults (s : State) (k : Station) :
    (s.missPeer k).faults = s.faults := by simp only [State.missPeer]; split <;> first | rfl | (split <;> first | rfl | (split <;> simp))

@[simp] theorem State.missPeer_store (s : State) (k : Station) :
    (s.missPeer k).store = s.store := by simp only [State.missPeer]; split <;> first | rfl | (split <;> first | rfl | (split <;> simp))

@[simp] theorem State.missPeer_emulator (s : State) (k : Station) :
    (s.missPeer k).emulator = s.emulator := by simp only [State.missPeer]; split <;> first | rfl | (split <;> first | rfl | (split <;> simp))

@[simp] theorem State.missPeer_tests (s : State) (k : Station) :
    (s.missPeer k).tests = s.tests := by simp only [State.missPeer]; split <;> first | rfl | (split <;> first | rfl | (split <;> simp))

@[simp] theorem State.missPeer_freeCount (s : State) (k : Station) :
    (s.missPeer k).freeCount = s.freeCount := by simp only [State.missPeer]; split <;> first | rfl | (split <;> first | rfl | (split <;> simp))

@[simp] theorem State.missPeer_pending (s : State) (k : Station) :
    (s.missPeer k).pending = s.pending := by simp only [State.missPeer]; split <;> first | rfl | (split <;> first | rfl | (split <;> simp))

/-! ### `State.updatePeer` -/

@[simp] theorem State.updatePeer_clock (s : State) (k : Station) :
    (s.updatePeer k).clock = s.clock := by unfold State.updatePeer; split <;> first | rfl | (split <;> simp)

@[simp] theorem State.updatePeer_line (s : State) (k : Station) :
    (s.updatePeer k).line = s.line := by unfold State.updatePeer; split <;> first | rfl | (split <;> simp)

@[simp] theorem State.updatePeer_timer (s : State) (k : Station) :
    (s.updatePeer k).timer = s.timer := by unfold State.updatePeer; split <;> first | rfl | (split <;> simp)

@[simp] theorem State.updatePeer_sensor (s : State) (k : Station) :
    (s.updatePeer k).sensor = s.sensor := by unfold State.updatePeer; split <;> first | rfl | (split <;> simp)

@[simp] theorem State.updatePeer_faults (s : State) (k : Station) :
    (s.updatePeer k).faults = s.faults := by unfold State.updatePeer; split <;> first | rfl | (split <;> simp)

@[simp] theorem State.updatePeer_store (s : State) (k : Station) :
    (s.updatePeer k).store = s.store := by unfold State.updatePeer; split <;> first | rfl | (split <;> simp)

@[simp] theorem State.updatePeer_emulator (s : State) (k : Station) :
    (s.updatePeer k).emulator = s.emulator := by unfold State.updatePeer; split <;> first | rfl | (split <;> simp)

@[simp] theorem State.updatePeer_tests (s : State) (k : Station) :
    (s.updatePeer k).tests = s.tests := by unfold State.updatePeer; split <;> first | rfl | (split <;> simp)

@[simp] theorem State.updatePeer_freeCount (s : State) (k : Station) :
    (s.updatePeer k).freeCount = s.freeCount := by unfold State.updatePeer; split <;> first | rfl | (split <;> simp)

@[simp] theorem State.updatePeer_pending (s : State) (k : Station) :
    (s.updatePeer k).pending = s.pending := by unfold State.updatePeer; split <;> first | rfl | (split <;> simp)

end Sys2Proof.Machine
end

