-- ==== Sys2Proof/Laws/Line.lean ====
section
/-! SUPPORT. The line and the local port's byte level: when a stretch is taken, when a deadline, a timeout or an edge is due,
what a drive begins, which frames open with their sync, and the levels and bytes the part shows. -/

namespace Sys2Proof.Machine

/-! ## The outcome a close hands over (R71, R72; log 37) -/

/-- SENT is handed over for a completed frame alone, in JOINING, ACTIVE and LEAVING alone. -/
theorem State.sent_of_handsSent (s : State) (h : s.handsSent = true) :
    s.line.outcome = .sent ∧ s.member.selfState.sends = true := by
  simp only [State.handsSent, Bool.and_eq_true, beq_iff_eq] at h
  exact h.1

/-- A frame completed in JOINING or ACTIVE, or before the change to LEAVING, is handed over as SENT wherever the free choice
falls. -/
theorem State.handsSent_of_sent (s : State) (ho : s.line.outcome = .sent) (hs : s.member.selfState.sends = true)
    (hl : s.sentAfterLeaving = false) : s.handsSent = true := by
  simp [State.handsSent, ho, hs, hl]

/-! ## What is due (R45, R47, R50, R157) -/

theorem State.stretchTaken_iff (s : State) : s.stretchTaken = true ↔
    s.line.markDrive = .recognised ∨ ∃ o ∈ s.timer.origin, s.clock < o + 24 := by
  unfold State.stretchTaken recognitionTime
  cases s.timer.origin <;> simp

/-- A time of Table 3-3 has come when the last mark has an origin and the clock stands at least that far after it (R51). -/
theorem State.reached_iff (s : State) (time : Nat) : s.reached time = true ↔
    ∃ o ∈ s.timer.origin, o + time ≤ s.clock := by
  unfold State.reached
  cases s.timer.origin <;> simp

/-- A recognised mark stands 12 bit times after its origin, before every schedule event of the epoch it starts. -/
theorem State.reached_after_mark (s : State) (time : Nat) (h : s.timer.origin = some (s.clock - 12)) (ht : 12 < time) :
    s.reached time = false := by
  unfold State.reached
  simp only [h, decide_eq_false_iff_not]
  exact Int.not_le.2 (by omega)

theorem State.deadlineDue_iff (s : State) : s.deadlineDue = true ↔ ∃ d ∈ s.timer.deadline, d ≤ s.clock := by
  unfold State.deadlineDue
  cases s.timer.deadline <;> simp

theorem State.timeoutDue_iff (s : State) : s.timeoutDue = true ↔
    s.member.selfState = .listen ∧ s.listenTimeout ≤ s.timer.listenTimer := by
  simp [State.timeoutDue]

theorem MarkDrive.isDriving_iff (m : MarkDrive) : m.isDriving = true ↔ ∃ cold since, m = .driving cold since := by
  cases m <;> simp [MarkDrive.isDriving]

theorem MarkDrive.isColdStart_iff (m : MarkDrive) : m.isColdStart = true ↔ ∃ since, m = .driving true since := by
  cases m <;> simp [MarkDrive.isColdStart]

/-- A drive begins, or goes on where the station drives already; nothing else of the line changes (R47). -/
theorem LineController.drive_cases (l : LineController) (cold : Bool) (now : Instant) :
    (l.markDrive.isDriving = true ∧ l.drive cold now = l) ∨
      (l.markDrive.isDriving = false ∧ l.drive cold now = { l with markDrive := .driving cold now }) := by
  unfold LineController.drive
  cases l.markDrive.isDriving <;> simp

/-! ## Frames (R172) -/

theorem sampleSyncOk_iff (frame : BitVec 102) : sampleSyncOk frame = true ↔ frame.extractLsb' 94 8 = 0xB4#8 := by
  simp [sampleSyncOk, frameField, sampleSync]

theorem noticeSyncOk_iff (frame : BitVec 49) : noticeSyncOk frame = true ↔ frame.extractLsb' 41 8 = 0x9B#8 := by
  simp [noticeSyncOk, frameField, noticeSync]

/-- No level is driven before a frame's begin. -/
theorem frameLevel_of_neg {w : Nat} (bits : BitVec w) (elapsed : Int) (half : Bool) (h : elapsed < 0) :
    frameLevel bits elapsed half = false := by
  simp [frameLevel, h]

/-! ## The local port (Table 8-6) -/

theorem LocalPort.sdo_of_closed (p : LocalPort) (i : Nat) (h : p.txn = .closed) : p.sdo i = none := by
  simp [LocalPort.sdo, h]

theorem LocalPort.sdo_of_response (p : LocalPort) (i : Nat) (h : p.txn = .response) :
    p.sdo i = some (p.response.getD i fillerByte) := by
  simp [LocalPort.sdo, h]

theorem LocalPort.brings_of_arguments (p : LocalPort) (b : Byte) (c : LocalCommand) (h : p.txn = .arguments c) :
    p.brings b = some (c.toInstr b) := by
  simp [LocalPort.brings, h]

theorem LocalPort.brings_of_command (p : LocalPort) (b : Byte) (h : p.txn = .command) :
    p.brings b = some (commandByteRow b) := by
  simp [LocalPort.brings, h]

end Sys2Proof.Machine
end

