-- ==== Sys2Proof/Laws/Queues.lean ====
section
/-! SUPPORT. The queues and the Fault Register: what an append, a merge of records, a posting and a setting can do. -/

namespace Sys2Proof.Machine

/-! ## The Event Queue -/

/-- An append to a queue with room is taken at the newest end. -/
theorem LocalPort.append_of_room (p : LocalPort) (e : EventRecord) (h : p.events.length < 32) :
    p.append e = { p with events := p.events ++ [e] } := by simp [LocalPort.append, eventCapacity, h]

/-- An append to a full queue sets OVERFLOW and nothing else. -/
theorem LocalPort.append_of_full (p : LocalPort) (e : EventRecord) (h : 32 ≤ p.events.length) :
    p.append e = { p with overflow := true } := by
  simp [LocalPort.append, eventCapacity, Nat.not_lt.2 h]

@[simp] theorem LocalPort.append_txn (p : LocalPort) (e : EventRecord) : (p.append e).txn = p.txn := by
  unfold LocalPort.append; split <;> rfl

@[simp] theorem LocalPort.append_csnLow (p : LocalPort) (e : EventRecord) : (p.append e).csnLow = p.csnLow := by
  unfold LocalPort.append; split <;> rfl

@[simp] theorem LocalPort.append_response (p : LocalPort) (e : EventRecord) : (p.append e).response = p.response := by
  unfold LocalPort.append; split <;> rfl

@[simp] theorem LocalPort.append_toDeliver (p : LocalPort) (e : EventRecord) : (p.append e).toDeliver = p.toDeliver := by
  unfold LocalPort.append; split <;> rfl

@[simp] theorem LocalPort.appendAll_nil (p : LocalPort) : p.appendAll [] = p := rfl

@[simp] theorem LocalPort.appendAll_cons (p : LocalPort) (e : EventRecord) (es : List EventRecord) :
    p.appendAll (e :: es) = (p.append e).appendAll es := rfl

theorem LocalPort.appendAll_append (p : LocalPort) (es fs : List EventRecord) :
    p.appendAll (es ++ fs) = (p.appendAll es).appendAll fs := List.foldl_append

@[simp] theorem LocalPort.appendAll_txn (p : LocalPort) (es : List EventRecord) : (p.appendAll es).txn = p.txn := by
  induction es generalizing p with
  | nil => rfl
  | cons e es ih => rw [appendAll_cons, ih, append_txn]

@[simp] theorem LocalPort.appendAll_csnLow (p : LocalPort) (es : List EventRecord) :
    (p.appendAll es).csnLow = p.csnLow := by
  induction es generalizing p with
  | nil => rfl
  | cons e es ih => rw [appendAll_cons, ih, append_csnLow]

@[simp] theorem LocalPort.appendAll_response (p : LocalPort) (es : List EventRecord) :
    (p.appendAll es).response = p.response := by
  induction es generalizing p with
  | nil => rfl
  | cons e es ih => rw [appendAll_cons, ih, append_response]

@[simp] theorem LocalPort.appendAll_toDeliver (p : LocalPort) (es : List EventRecord) :
    (p.appendAll es).toDeliver = p.toDeliver := by
  induction es generalizing p with
  | nil => rfl
  | cons e es ih => rw [appendAll_cons, ih, append_toDeliver]

/-- With room for all of them the records stand behind the queue in their order, and nothing else changes. -/
theorem LocalPort.appendAll_of_room (p : LocalPort) (es : List EventRecord)
    (h : p.events.length + es.length ≤ 32) : p.appendAll es = { p with events := p.events ++ es } := by
  induction es generalizing p with
  | nil => simp
  | cons e es ih =>
    simp only [List.length_cons] at h
    rw [appendAll_cons, append_of_room p e (by omega), ih _ (by simp; omega)]
    simp

/-- No append takes the queue above its capacity. -/
theorem LocalPort.append_length_le (p : LocalPort) (e : EventRecord) (h : p.events.length ≤ 32) :
    (p.append e).events.length ≤ 32 := by
  unfold LocalPort.append eventCapacity
  split <;> simp_all

/-- No number of appends takes the queue above its capacity. -/
theorem LocalPort.appendAll_length_le (p : LocalPort) (es : List EventRecord) (h : p.events.length ≤ 32) :
    (p.appendAll es).events.length ≤ 32 := by
  induction es generalizing p with
  | nil => exact h
  | cons e es ih => exact ih _ (p.append_length_le e h)

/-- An append removes nothing. -/
theorem LocalPort.append_prefix (p : LocalPort) (e : EventRecord) : p.events <+: (p.append e).events := by
  unfold LocalPort.append
  split
  · exact List.prefix_append ..
  · exact List.prefix_rfl

/-- Appends remove nothing: the queue's history stands first. -/
theorem LocalPort.appendAll_prefix (p : LocalPort) (es : List EventRecord) : p.events <+: (p.appendAll es).events := by
  induction es generalizing p with
  | nil => exact List.prefix_rfl
  | cons e es ih => exact (p.append_prefix e).trans (ih _)

/-! ## Records of several blocks (R145) -/

/-- Whichever way the choices fall, a merge holds the records of both lists and no others. -/
theorem freeMerge_perm {α : Type} (c fuel : Nat) (as bs : List α) : (freeMerge c fuel as bs).Perm (as ++ bs) := by
  induction fuel generalizing c as bs with
  | zero => simp [freeMerge]
  | succ n ih =>
    cases as with
    | nil => simp [freeMerge]
    | cons a as =>
      cases bs with
      | nil => simp [freeMerge]
      | cons b bs =>
        simp only [freeMerge]
        split
        · exact (ih ..).cons a
        · exact ((ih ..).cons b).trans (List.perm_middle (l₁ := a :: as)).symm

/-- A merge keeps the order within each list: the first. -/
theorem freeMerge_sublist_left {α : Type} (c fuel : Nat) (as bs : List α) : as.Sublist (freeMerge c fuel as bs) := by
  induction fuel generalizing c as bs with
  | zero => simp [freeMerge]
  | succ n ih =>
    cases as with
    | nil => simp
    | cons a as =>
      cases bs with
      | nil => simp [freeMerge]
      | cons b bs =>
        simp only [freeMerge]
        split
        · exact (ih ..).cons_cons a
        · exact (ih ..).cons b

/-- A merge keeps the order within each list: the second. -/
theorem freeMerge_sublist_right {α : Type} (c fuel : Nat) (as bs : List α) : bs.Sublist (freeMerge c fuel as bs) := by
  induction fuel generalizing c as bs with
  | zero => simp [freeMerge]
  | succ n ih =>
    cases as with
    | nil => simp [freeMerge]
    | cons a as =>
      cases bs with
      | nil => simp
      | cons b bs =>
        simp only [freeMerge]
        split
        · exact (ih ..).cons a
        · exact (ih ..).cons_cons b

/-- The records of several blocks together are those of the blocks, in some order. -/
theorem mergeBlocks_perm (c : Nat) (blocks : List (List EventRecord)) :
    (mergeBlocks c blocks).1.Perm blocks.flatten := by
  induction blocks with
  | nil => exact .refl _
  | cons b bs ih =>
    simp only [mergeBlocks, List.flatten_cons]
    exact (freeMerge_perm ..).trans (List.Perm.append_left b ih)

/-- Each block's own records keep their order. -/
theorem mergeBlocks_sublist (c : Nat) (blocks : List (List EventRecord)) (b : List EventRecord) (h : b ∈ blocks) :
    b.Sublist (mergeBlocks c blocks).1 := by
  induction blocks with
  | nil => cases h
  | cons x xs ih =>
    simp only [mergeBlocks]
    rcases List.mem_cons.1 h with rfl | h
    · exact freeMerge_sublist_left ..
    · exact (ih h).trans (freeMerge_sublist_right ..)

/-! ## The Notice Queue -/

@[simp] theorem NoticeEntry.repost_kind (e : NoticeEntry) (arg : Byte) : (e.repost arg).kind = e.kind := by
  unfold NoticeEntry.repost; split <;> rfl

/-- What a posting does to the kinds pending: nothing for a kind that is pending, else the kind joins at the end. -/
theorem postNotice_kinds (q : List NoticeEntry) (k : NoticeKind) (arg : Byte) :
    (postNotice q k arg).map NoticeEntry.kind =
      if noticePending q k then q.map NoticeEntry.kind else q.map NoticeEntry.kind ++ [k] := by
  unfold postNotice
  split
  · rw [List.map_map]
    refine List.map_congr_left fun e _ => ?_
    simp only [Function.comp]
    split <;> simp
  · simp

/-- A posting keeps the kinds distinct. -/
theorem postNotice_nodup (q : List NoticeEntry) (k : NoticeKind) (arg : Byte)
    (h : (q.map NoticeEntry.kind).Nodup) : ((postNotice q k arg).map NoticeEntry.kind).Nodup := by
  rw [postNotice_kinds]
  split
  · exact h
  · rename_i hn
    rw [List.nodup_append]
    refine ⟨h, by simp, ?_⟩
    intro a ha b hb
    simp only [List.mem_singleton] at hb
    subst hb
    rintro rfl
    obtain ⟨e, he, rfl⟩ := List.mem_map.1 ha
    exact hn (by simpa [noticePending] using ⟨e, he, rfl⟩)

/-- A posting keeps the entries of the other kinds. -/
theorem mem_postNotice_of_ne {q : List NoticeEntry} {k : NoticeKind} {arg : Byte} {e : NoticeEntry}
    (h : e ∈ q) (hk : e.kind ≠ k) : e ∈ postNotice q k arg := by
  unfold postNotice
  split
  · exact List.mem_map.2 ⟨e, h, by simp [hk]⟩
  · exact List.mem_append_left _ h

/-! ## The Fault Register -/

/-- A setting adds the one kind and asserts FLT. -/
theorem FaultRegister.holds_set (f : FaultRegister) (k j : FaultKind) :
    holds (f.set k).held j = (holds f.held j || decide (j = k)) := by
  cases k <;> cases j <;> simp [FaultRegister.set, holds, FaultKind.mask, FaultKind.bit]

/-- After a setting FLT is asserted, and the held set is not empty. -/
theorem FaultRegister.set_flt_held (f : FaultRegister) (k : FaultKind) : (f.set k).flt = true ∧ (f.set k).held ≠ 0 := by
  refine ⟨rfl, fun h => ?_⟩
  have := f.holds_set k k
  rw [h] at this
  simp [holds] at this

/-- CLEAR_FAULTS keeps the live kinds that were held, and FLT follows. -/
theorem FaultRegister.clear_flt (f : FaultRegister) (live : FaultSet) :
    (f.clear live).held = f.held &&& live ∧ ((f.clear live).flt = true ↔ (f.clear live).held ≠ 0) :=
  ⟨rfl, by simp [FaultRegister.clear]⟩

end Sys2Proof.Machine
end

