-- ==== Sys2Proof/Laws/Values.lean ====
section
/-! SUPPORT. Angles, counts, the Axis Table, the tracking window and the Snapshot Store: the facts the shared functions over
them keep. -/

namespace Sys2Proof.Machine

/-! ## Angles and counts -/

@[simp] theorem circDiff_self (a : Angle) : circDiff a a = 0 := by simp [circDiff]

/-- The circular difference lies in -32768 to 32767 (R6). -/
theorem circDiff_range (a b : Angle) : -32768 ≤ circDiff a b ∧ circDiff a b ≤ 32767 := by
  unfold circDiff
  have h1 := BitVec.toInt_lt (x := a - b)
  have h2 := BitVec.le_toInt (x := a - b)
  omega

/-- The reference plus the circular difference is the angle (R6). -/
theorem angleAdd_circDiff (a b : Angle) : angleAdd b (circDiff a b) = a := by
  unfold angleAdd circDiff
  rw [BitVec.ofInt_toInt]
  rw [BitVec.add_comm, BitVec.sub_add_cancel]

/-- The magnitude does not depend on which angle is the reference. -/
theorem circMag_comm (a b : Angle) : circMag a b = circMag b a := by
  unfold circMag circDiff
  rw [show b - a = -(a - b) by bv_omega, BitVec.toInt_neg]
  have h1 := BitVec.toInt_lt (x := a - b)
  have h2 := BitVec.le_toInt (x := a - b)
  simp only [Int.bmod]
  omega

/-- One count stays below C. -/
theorem countStep_lt (up : Bool) (c perTurn : Nat) (h : 0 < perTurn) : countStep up c perTurn < perTurn := by
  unfold countStep
  split <;> exact Nat.mod_lt _ h

/-- A PULSE move stays below C. -/
theorem moveCount_lt (up : Bool) (perTurn n c : Nat) (h : c < perTurn) : moveCount up perTurn n c < perTurn := by
  induction n generalizing c with
  | zero => exact h
  | succ n ih => exact ih _ (countStep_lt up c perTurn (by omega))

@[simp] theorem PulseEmulator.show_counter (e : PulseEmulator) : e.show.counter = e.counter := rfl

@[simp] theorem PulseEmulator.show_state (e : PulseEmulator) : e.show.state = e.state := rfl

@[simp] theorem PulseEmulator.show_emission (e : PulseEmulator) : e.show.emission = e.emission := rfl

@[simp] theorem PulseEmulator.show_testHold (e : PulseEmulator) : e.show.testHold = e.testHold := rfl

/-- C is at least 1024 and a power of two: half of it is exact, and it divides 65536. -/
theorem countsPerTurn_dvd (res : BitVec 2) : 1024 ≤ countsPerTurn res ∧ countsPerTurn res ∣ 65536 := by
  revert res; decide

/-! ## The Axis Table -/

/-- An unbind claim keeps the number of rows. -/
theorem unbindFrom_length (e : Epoch) (k : Station) (axis : Nat) (rows : List Row) :
    (unbindFrom e k axis rows).1.length = rows.length := by
  induction rows generalizing axis with
  | nil => rfl
  | cons r rs ih => simp only [unbindFrom]; split <;> simp [ih]

@[simp] theorem unbindRows_length (e : Epoch) (rows : List Row) (k : Station) :
    (unbindRows e rows k).1.length = rows.length := unbindFrom_length ..

/-- A removed station is a source no longer. -/
@[simp] theorem Row.unbind_has (r : Row) (k : Station) : (r.unbind k).has k = false := by
  simp [Row.unbind, Row.has]

/-- A bind claim keeps the number of rows. -/
theorem bindRows_length (e : Epoch) (rows : List Row) (k : Station) (axis : Axis) (refused : Bool) :
    (bindRows e rows k axis refused).1.length = rows.length := by
  simp only [bindRows]
  split
  · rfl
  · split <;> simp

/-- The stations of a row do not depend on the vote: no stage adds or removes a source. -/
theorem Row.vote_stations (r : Row) (p : Plan) (e : Epoch) :
    (r.vote p e).1.sources.map Source.station = r.sources.map Source.station := by
  have score : ∀ (src : Source) (v : Verdict), (src.score p v).1.station = src.station := by
    intro src v
    simp only [Source.score]
    repeat' split
    all_goals rfl
  have reb : r.rebuild.1.sources.map Source.station = r.sources.map Source.station := by
    unfold Row.rebuild; split <;> simp [Function.comp_def]
  simp only [Row.vote, List.map_map, Function.comp_def, score]
  exact reb

/-- The write-back keeps every row's stations (R15). -/
theorem Row.writeBack_stations (t v : Row) :
    (t.writeBack v).sources.map Source.station = t.sources.map Source.station := by
  simp only [Row.writeBack, List.map_map]
  refine List.map_congr_left fun src _ => ?_
  simp only [Function.comp, Source.writeBack]
  split <;> rfl

/-! ## The tracking window -/

/-- The window holds at most W results (R121). -/
theorem windowStep_length (dw : BitVec 2) (b a : ConverterState) (x : Bool) (w : List Bool)
    (h : w.length ≤ windowLength dw) : (windowStep dw b a x w).length ≤ windowLength dw := by
  cases b <;> cases a <;> simp [windowStep] <;> omega

/-! ## The Snapshot Store -/

@[simp] theorem SnapshotStore.publish_front (st : SnapshotStore) (pg : Page) (now : Instant) :
    (st.publish pg now).front = some st.fill := rfl

@[simp] theorem SnapshotStore.publish_pin (st : SnapshotStore) (pg : Page) (now : Instant) :
    (st.publish pg now).pin = st.pin := rfl

@[simp] theorem SnapshotStore.publish_eps (st : SnapshotStore) (pg : Page) (now : Instant) :
    (st.publish pg now).eps = some now := rfl

@[simp] theorem SnapshotStore.publish_pages_length (st : SnapshotStore) (pg : Page) (now : Instant) :
    (st.publish pg now).pages.length = st.pages.length := by
  simp [SnapshotStore.publish, SnapshotStore.setPage]

@[simp] theorem PageRow.bytes_length (r : PageRow) : r.bytes.length = 10 := rfl

/-! ## Reset -/

/-- With every strap 0 and CSN high, RESET gives `State.reset`, its queue apart (log 8). -/
theorem State.atReset_zero : State.reset.atReset ⟨0, 0, 0, 0, 0⟩ false = State.reset := by decide +kernel

/-- The Snapshot Store's values of reset and of RESTART are the same (Table 8-1). -/
theorem State.reset_store : State.reset.store = SnapshotStore.initial := rfl

end Sys2Proof.Machine
end

