-- ==== Sys2Proof/Tests/Slice0.lean ====
section
/-! SUPPORT. Tests. The expected values come from the Technical Data: its worked examples and tables, or a hand calculation
from them (each test names its source). Then one witness for each statement that has hypotheses: a concrete state
and operands that meet them all, each clause at a boundary of its range. -/

namespace Sys2Proof.Tests

open Sys2Proof Sys2Proof.Machine

set_option Elab.async false

/-! ## Helpers -/

/-- The next state of an outcome, if it is one. -/
def nextOf : Host.Outcome State Fault Refusal → Option State
  | .next s => some s
  | .fault _ => none
  | .refused _ => none

/-- What a command leaves, seen through one view of the state. -/
def seen {α : Type} (c : Instr) (s : State) (view : State → α) : Option α := (nextOf (exec c s)).map view

/-- Station 5 of plan 2, on axis 4, at 900 bit times after the mark of epoch 812: N = 8, P = 5000, TOL 128. -/
def station5 (self : SelfState) (pos : SchedulePos) : State :=
  { State.reset with
    clock := 900
    timer := { State.reset.timer with
      plan := 2, epoch := 812, markSeen := true, origin := some 0, position := pos
      deadline := if self.sends then some 5040 else none }
    member := { State.reset.member with selfState := self, ownStation := 5, ownAxis := 4 } }

/-- The same station with a transaction in COMMAND. -/
def inCommand (self : SelfState) : State :=
  { station5 self .idle with port := { State.reset.port with txn := .command, csnLow := true, events := [] } }

/-- Clear sample flags. -/
def noFlags : SampleFlags := ⟨false, false, false⟩

/-- The frame of an ACTIVE station of axis 0 at angle 1000 and velocity 10, with a heard set. -/
def frameOf (k : Station) (e : Epoch) (heard : StationSet) : FrameRecord :=
  ⟨k, 0, .active, noFlags, e, 1000, 10, heard⟩

/-- A quiet mark: nothing low, nothing out of band, the tracking error below lock, the angle 12000. -/
def quiet : MarkInputs := ⟨false, false, false, false, true, false, 12000, false, 0, 0, 0⟩

/-- A VOTING source with a usable sample. -/
def voter (k : Station) (angle : Angle) (velocity : Velocity) : Source :=
  ⟨k, .voting, 0, 0, some ⟨angle, velocity, true⟩⟩

/-- A row AGREED so far, without a value. -/
def rowWith (sources : List Source) : Row := ⟨sources, .agreed, none, 0, false⟩

/-! ## Well-formedness: one ill-formed command for each check -/

theorem test_wf_sample_sync : Instr.wellFormed (.frameReceived 0) = false := by decide

theorem test_wf_notice_sync : Instr.wellFormed (.noticeReceived 0) = false := by decide

theorem test_wf_bad_command_names_none : Instr.wellFormed (.badCommand 0x30) = false := by decide

theorem test_wf_command_byte_needs_argument : Instr.wellFormed (.commandByte 0x30) = false := by decide

theorem test_wf_admits : Instr.wellFormed (.badCommand 0x31) = true ∧ Instr.wellFormed (.commandByte 0x60) = true := by
  decide

/-! ## Formats -/

/-- The check value of this polynomial and start for the characters 1 to 9 (the published one of CRC-16 with polynomial
0x1021, start 0xFFFF, no final inversion; R173 names the same three). -/
theorem test_frame_check : frameCheck 0x313233343536373839#72 = 0x29B1#16 := by decide +kernel

/-- A sample frame written out field by field from Table 11-2: plan 2, station 5, axis 4, ACTIVE, SETTLING, epoch 812,
angle 0x1555, velocity -1, heard set 0x0045, and a check field of 0xABCD. -/
def writtenFrame : BitVec 102 :=
  0b10110100#8 ++ 0b010#3 ++ 0b0101#4 ++ 0b100#3 ++ 0b1#1 ++ 0b010#3 ++ 0b0000001100101100#16
    ++ 0b0001010101010101#16 ++ 0b1111111111111111#16 ++ 0b0000000001000101#16 ++ 0xABCD#16

theorem test_frame_fields : sampleRecord writtenFrame =
    ⟨5, 4, .active, ⟨false, true, false⟩, 812, 0x1555, 0xFFFF, 0x0045⟩ ∧ samplePlan writtenFrame = 2 := by
  decide +kernel

/-- A notice frame written out from Table 11-3: FAULT (01), station 3, plan 0, argument LOSS_COS (0x02), epoch 2000 (0xD0):
the frame of round 0 of Table 6-5, with a check field of 0. -/
def writtenNotice : BitVec 49 :=
  0b10011011#8 ++ 0b01#2 ++ 0b0011#4 ++ 0b000#3 ++ 0b00000010#8 ++ 0b11010000#8 ++ 0x0000#16

theorem test_notice_fields : noticeFields writtenNotice = ⟨.fault, 3, 0, 0x02, 0xD0⟩ := by decide +kernel

/-- The byte lengths of Tables 11-6 to 11-9. -/
theorem test_byte_lengths : State.reset.statusBlock.length = 31 ∧ Page.cleared.bytes.length = 88 ∧
    PeerEntry.cleared.bytes.length = 6 ∧ (evPlain .resync 900).bytes = [14, 0x03, 0x84, 0, 0, 0, 0] := by
  decide +kernel

/-- The table gives no row any bits: no word spells a command. -/
theorem test_no_word_spells : decodeTableWord 8 0x01 = none := rfl

/-! ## Angles and the vote -/

/-- Table 1-6. -/
theorem test_circular_differences : circDiff 10 65530 = 16 ∧ circDiff 65530 10 = -16 ∧ circDiff 32768 0 = -32768 ∧
    circDiff 0 32768 = -32768 ∧ circDiff 100 40000 = 25636 ∧ circDiff 40000 100 = -25636 ∧
    anglesAgree 128 60 65500 = true ∧ anglesAgree 128 200 65500 = false := by decide

/-- Table 2-3: the median across angle 0 is the reference, and all three agree. -/
theorem test_median_across_zero : (rowWith [voter 2 65520 1, voter 5 30 2, voter 7 65480 3]).verdict 128 =
    ⟨.agreed, some (65520, 1, 0x00A4), [2, 5, 7], none⟩ := by decide +kernel

/-- Table 2-4: the opposite pair decides, and station 1 is charged. -/
theorem test_opposite_pair : (rowWith [voter 1 100 4, voter 4 32800 4, voter 9 32950 4]).verdict 256 =
    ⟨.agreed, some (32875, 4, 0x0210), [4, 9], some 1⟩ := by decide +kernel

/-- Table 2-5. -/
theorem test_midpoints : midAngle 20200 20210 = 20205 ∧ midVelocity 40 40 = 40 ∧ midAngle 65500 60 = 12 ∧
    midVelocity 41 (-6) = 17 ∧ midAngle 1000 937 = 968 ∧ midVelocity (-41) 6 = -18 := by decide

/-- Table 2-6, vote 9: the hold age reaches 8 and STALE is set (plan 3). -/
theorem test_ageing : ((({ rowWith [] with holdAge := 7 } : Row).vote (planTable 3) 0).1.holdAge,
    (({ rowWith [] with holdAge := 7 } : Row).vote (planTable 3) 0).1.stale,
    (({ rowWith [] with holdAge := 6 } : Row).vote (planTable 3) 0).1.stale) = (8, true, false) := by decide +kernel

/-- Table 2-8, epoch 1004: station 3's run reaches DIV of plan 0 and it diverges. -/
theorem test_divergence : (rowWith [voter 0 20160 40, voter 1 20170 40,
      { voter 3 20300 40 with disagreeRun := 3 }]).vote (planTable 0) 1004 =
    (⟨[voter 0 20160 40, voter 1 20170 40, { voter 3 20300 40 with standing := .diverged, disagreeRun := 4 }],
      .agreed, some ⟨20170, 40, 1004, 0b11⟩, 0, false⟩, [.diverged 3]) := by decide +kernel

/-- R167: a sound engine passes the VOTE test under every plan. -/
theorem test_vote_cases_pass : ∀ p : PlanCode, voteTestOutcome (planTable p) = .pass := by decide +kernel

/-! ## Table 1-5, the refusal episode -/

/-- Row 3 of plan 2 with stations 1, 4 and 6 VOTING. -/
def fullTable : List Row :=
  (List.replicate 8 Row.cleared).set 3 (rowWith [voter 1 0 0, voter 4 0 0, voter 6 0 0])

/-- Steps 1 and 2: refused, with the event at the first refusal alone. -/
theorem test_refusal : bindRows 500 fullTable 2 3 false =
      (fullTable, .refused, [⟨.sourceRefused, 500, some 2, some 3, none⟩]) ∧
    bindRows 501 fullTable 2 3 true = (fullTable, .refused, []) := by decide +kernel

/-- Step 4: after station 4's unbind station 2 enters between 1 and 6 as CANDIDATE. -/
theorem test_bind_after_unbind : (((bindRows 502 (unbindRows 501 fullTable 4).1 2 3 true).1.getD 3 Row.cleared).sources.map
      fun x => (x.station, x.standing)) = [(1, .voting), (2, .candidate), (6, .voting)] := by decide +kernel

/-! ## The emulator -/

/-- The emulator of section 9.9: C = 4096. -/
def emulatorAt (st : EmulatorState) (counter : Nat) : PulseEmulator := ⟨1, st, counter, none, none, false, false, false⟩

/-- Table 9-5: frozen at the STALE row of 5004; LAGGING with 512 of 1500 counts at 5005; FOLLOW with 476 at 5007. -/
theorem test_catch_up :
    ((emulatorAt .follow 1000).publish ⟨.lost, true, true, 4, 16000, 0, 0, 0⟩ 0).state = .frozen ∧
    ((emulatorAt .frozen 1000).publish ⟨.agreed, false, true, 0, 40000, 0, 0, 0⟩ 7).emission = some ⟨true, 512, 0, 7⟩ ∧
    ((emulatorAt .lagging 2024).publish ⟨.agreed, false, true, 0, 40000, 0, 0, 0⟩ 0).state = .follow ∧
    ((emulatorAt .lagging 2024).publish ⟨.agreed, false, true, 0, 40000, 0, 0, 0⟩ 9).emission = some ⟨true, 476, 0, 9⟩ ∧
    edgeTime 20000 512 1 = 29 ∧ edgeTime 20000 512 512 = 15000 := by decide +kernel

/-- R154, R155: the target of 40000, and the shorter way across count 0. -/
theorem test_targets : targetOf 40000 4096 = 2500 ∧ targetOf 40015 4096 = 2500 ∧ countDiff 6 4090 4096 = 12 ∧
    countDiff 2048 0 4096 = -2048 := by decide

/-! ## The Snapshot Store -/

/-- The roles a store shows: FILL, FRONT, SPARE in order. -/
def roles (st : SnapshotStore) : PageNumber × Option PageNumber × List PageNumber := (st.fill, st.front, st.spare)

/-- Table 8-3: the first and the second publication from reset. -/
theorem test_roles : roles (SnapshotStore.initial.publish Page.cleared 0) = (1, some 0, [2]) ∧
    roles ((SnapshotStore.initial.publish Page.cleared 0).publish Page.cleared 0) = (2, some 1, [0]) := by decide +kernel

/-- Table 8-10, steps 2 and 7: the pinned page is passed over, and the released one is taken. -/
theorem test_pinned_page_is_kept :
    roles (SnapshotStore.publish ⟨List.replicate 3 Page.cleared, 2, some 1, [0], some ⟨1, .held⟩, none⟩ Page.cleared 0) =
      (0, some 2, [1]) ∧
    roles (SnapshotStore.publish ⟨List.replicate 3 Page.cleared, 0, some 2, [1], some ⟨2, .held⟩, none⟩ Page.cleared 0) =
      (1, some 0, [2]) := by decide +kernel

/-! ## One step of each command -/

/-- R148, R174: bytes bring their rows, and SDO shows filler, the answer, then filler again. -/
theorem test_port_bytes :
    (inCommand .active).port.brings 0x10 = some .pin ∧ (inCommand .active).port.brings 0x50 = some (.commandByte 0x50) ∧
    (inCommand .active).port.brings 0x00 = some (.badCommand 0x00) ∧ State.reset.port.brings 0x10 = none ∧
    ({ (inCommand .active).port with txn := .arguments .startTest }).brings 0x02 = some (.startTest 2) ∧
    State.reset.port.sdo 0 = none ∧ (inCommand .active).port.sdo 0 = some 0xFF ∧
    seen .clearFaults (inCommand .active) (fun t => (t.port.sdo 0, t.port.sdo 1)) = some (some 0x00, some 0xFF) := by
  decide +kernel

/-- R79: station 5 of plan 2 is in LISTEN; station 4 of plan 0 is out of range. -/
theorem test_reset : seen (.reset ⟨5, 4, 2, 1, 1⟩ true) State.reset
      (fun t => (t.member.selfState, t.member.ownStation, t.timer.plan, t.faults.held)) = some (.listen, 5, 2, 0) ∧
    seen (.reset ⟨4, 0, 0, 0, 0⟩ false) State.reset (fun t => (t.member.selfState, t.faults, t.port.events)) =
      some (.lockout, ⟨0x200, true⟩, [⟨.stationState, 0, none, none, some 5⟩, ⟨.faultHeld, 0, none, none, some 9⟩]) := by
  decide +kernel

/-- The station of section 7.10 before mark 3001: TRACK, 16 WITHIN results, the last latch 12000. -/
def trackingStation : State :=
  let s := station5 .active .idle
  { s with sensor := { s.sensor with conv := .track, acqCount := 16, prevLatch := some 12000, window := List.replicate 16 false, dw := 1 } }

/-- Table 7-8, mark 3001: HOLD, the angle frozen, both kinds held and reported. -/
theorem test_mark_lost_cosine :
    let lost := { quiet with cosLow := true, sumOut := true, tracked := 40 }
    seen (.markRecognised lost) trackingStation (fun t => (t.sensor.conv, t.sensor.sample)) =
      some (.hold, ⟨12000, 0, false, true⟩) ∧
    seen (.markRecognised lost) trackingStation (fun t => (t.faults.held, t.line.notices.map NoticeEntry.argument)) =
      some (0b110, [0b110]) ∧
    seen (.markRecognised lost) trackingStation (fun t => t.port.events.tail.map EventRecord.argument) =
      some [some 1, some 2] := by decide +kernel

/-- Table 7-8, mark 3004: ACQUIRE, the window emptied, velocity +120; the epoch number advances and the origin is
12 bit times back. -/
theorem test_mark_after_hold :
    let s := { trackingStation with sensor := { trackingStation.sensor with conv := .hold, acqCount := 0 } }
    seen (.markRecognised { quiet with tracked := 12120 }) s (fun t => (t.sensor.conv, t.sensor.window, t.sensor.sample)) =
      some (.acquire, [], ⟨12120, 120, true, false⟩) ∧
    seen (.markRecognised quiet) s (fun t => (t.timer.epoch, t.timer.origin, t.timer.epochLength)) =
      some (813, some 888, 888) := by decide +kernel

/-- R47, R48: 5040 after the origin; R56: a deadline still to come drives nothing. -/
theorem test_mark_deadline :
    seen .markDeadline { station5 .active .idle with clock := 5040 } (fun t => t.line.markDrive) =
      some (.driving false 5040) ∧
    seen .markDeadline { station5 .active .idle with clock := 5039 } (fun t => t.line.markDrive) = some .idle := by
  decide +kernel

/-- A station in LISTEN with a listen timer. -/
def listening (timer : Nat) : State :=
  { station5 .listen .idle with timer := { (station5 .listen .idle).timer with listenTimer := timer } }

/-- R50: 4 x 5000 + 8 x 5; R56: a restarted listen timer drives nothing. -/
theorem test_listen_timeout : seen .listenTimeout (listening 20040) (fun t => t.line.markDrive) =
      some (.driving true 900) ∧
    seen .listenTimeout (listening 20039) (fun t => t.line.markDrive) = some .idle := by decide +kernel

/-- R45: no second mark from a stretch, and a mark again 24 bit times after the origin. -/
theorem test_mark_once_per_stretch :
    seen (.markRecognised quiet) { station5 .active .mark with clock := 23 } (fun t => t.timer.epoch) = some 812 ∧
    seen (.markRecognised quiet) { station5 .active .mark with clock := 24 } (fun t => t.timer.epoch) = some 813 := by
  decide +kernel

/-- R45, R47: a drive begun at 889 is recognised at 901. -/
theorem test_own_mark_due : ∀ s : State, s = { station5 .active .idle with
      line := { State.reset.line with markDrive := .driving false 889 } } →
    s.due = [] ∧ s.count.due = [.markRecognised (Config.markInputs 901)] := by
  rintro s rfl
  exact ⟨rfl, rfl⟩

/-- R172: the first bit of a sample frame is a 1, recessive and then dominant; a mark is dominant; else recessive. -/
theorem test_drive_level :
    let sends := { station5 .active (.slot 5) with
      line := { State.reset.line with sending := some ⟨sampleFrame 2 (frameOf 5 812 0), 900⟩ } }
    (sends.driveLevel false, sends.driveLevel true) = (false, true) ∧
    ((station5 .active .idle).driveLevel false, (station5 .active .idle).driveLevel true) = (false, false) ∧
    ({ sends with line := { sends.line with markDrive := .recognised } } : State).driveLevel false = true := by
  decide +kernel

theorem test_mark_drive_release : seen .markDriveRelease
    { State.reset with line := { State.reset.line with markDrive := .recognised } } (fun t => t.line.markDrive) =
    some .idle := by decide +kernel

/-- Section 4.10: station 5 sends at the begin of slot 5 with the heard set of the last close, and listens in slot 6. -/
theorem test_slot_begin :
    seen (.slotBegin 5) { station5 .active (.slot 4) with line := { State.reset.line with heard := 0x0005 } }
      (fun t => (t.line.outcome, t.line.receiver, t.line.sending.map fun f => (sampleRecord f.bits).heard)) =
      some (.sending, .off, some 0x0005) ∧
    seen (.slotBegin 6) (station5 .active (.slot 5)) (fun t => (t.line.outcome, t.line.receiver)) =
      some (.none, .searching) := by decide +kernel

/-- A station whose own frame is being sent. -/
def sendingStation : State :=
  let s := station5 .active (.slot 5)
  { s with line := { s.line with outcome := .sending, sending := some ⟨0, 700⟩ } }

theorem test_own_frame_complete : seen .ownFrameComplete sendingStation (fun t => (t.line.outcome, t.line.sending)) =
    some (.sent, none) := by decide +kernel

theorem test_collision : seen .collision sendingStation (fun t => (t.line.outcome, t.line.awaiting)) =
    some (.stopped, true) := by decide +kernel

/-- R66: DUPLICATE_ID and LOCKOUT. -/
theorem test_collision_judgement :
    seen .collisionJudgement { sendingStation with line := { sendingStation.line with awaiting := true } }
      (fun t => (t.member.selfState, t.faults, t.timer.position, t.timer.deadline)) =
    some (.lockout, ⟨0x080, true⟩, .none, none) := by decide +kernel

/-- A receiver open in a slot. -/
def receivingIn (self : SelfState) (pos : SchedulePos) : State :=
  let s := station5 self pos
  { s with line := { s.line with receiver := .receiving } }

/-- Table 4-6, slots 0 and 4: a frame of the plan in force is valid, one of plan 3 is invalid PLAN. -/
theorem test_frame_received :
    seen (.frameReceived (sampleFrame 2 (frameOf 0 812 0))) (receivingIn .active (.slot 0))
      (fun t => t.line.buffer.head?) = some (some (.valid (frameOf 0 812 0))) ∧
    seen (.frameReceived (sampleFrame 3 (frameOf 4 812 0))) (receivingIn .active (.slot 4))
      (fun t => t.line.buffer[4]?) = some (some (.invalid .plan)) := by decide +kernel

/-- R67: a frame that began in slot 3 finds a SEARCHING receiver in slot 4 and is not taken there. -/
theorem test_frame_over_slot_end :
    seen (.frameReceived (sampleFrame 2 (frameOf 4 812 0))) { receivingIn .active (.slot 4) with
      line := { State.reset.line with receiver := .searching } }
      (fun t => (t.line.buffer[4]?, t.line.receiver)) = some (some .empty, .searching) := by decide +kernel

theorem test_sync_found : seen .syncFound { receivingIn .active (.slot 0) with
    line := { State.reset.line with receiver := .searching } } (fun t => t.line.receiver) = some .receiving := by
  decide +kernel

theorem test_coding_broken : seen .codingBroken (receivingIn .active (.slot 0)) (fun t => t.line.receiver) =
    some .searching := by decide +kernel

theorem test_slot_end : seen (.slotEnd 3) (receivingIn .active (.slot 3)) (fun t => t.line.receiver) = some .off := by
  decide +kernel

/-- Table 4-6: station 5's buffer before the close of epoch 812. -/
def bufferAt812 : List SlotRecord :=
  [.valid (frameOf 0 812 0), .empty, .valid (frameOf 2 812 0), .invalid .badCheck, .invalid .plan, .empty,
    .valid { frameOf 6 811 0 with state := .joining }, .empty] ++ List.replicate 8 .empty

/-- A station at the close, in the last slot, with a buffer and a transmit outcome. -/
def closing (self : SelfState) (buffer : List SlotRecord) (outcome : TxOutcome) : State :=
  let s := station5 self (.slot 7)
  { s with clock := 1168, line := { s.line with buffer := buffer, outcome := outcome } }

/-- Table 4-7: the heard set 0x0045 and the counts; 812 stands, and the vote begins with its number. -/
theorem test_close_latches : seen .close (closing .active bufferAt812 .sent)
    (fun t => (t.line.heard, t.line.counts, t.timer.epoch, t.engine.vote.map VoteInFlight.epoch)) =
    some (0x0045, ⟨1, 1, 0, 0⟩, 812, some 812) := by decide +kernel

/-- Table 5-9, close 900: station 6 in LISTEN adopts 900 from epoch number 1, and its peers are NEW. -/
theorem test_close_adopts :
    seen .close
      { closing .listen ([.valid (frameOf 0 900 0), .empty, .valid (frameOf 2 900 0)] ++ List.replicate 13 .empty) .none with
        timer := { (station5 .listen (.slot 7)).timer with epoch := 1 } }
      (fun t => (t.timer.epoch, t.member.listenRun, (t.member.peer 2).state, t.port.events.tail)) =
    some (900, 1, .new, [⟨.resync, 900, none, none, none⟩]) := by decide +kernel

/-- A station with a vote in flight whose row 4 holds one VOTING source. -/
def voting : State :=
  let s := station5 .active .gap
  let rows := (List.replicate 8 Row.cleared).set 4 { rowWith [voter 5 16000 0] with state := .lost }
  { s with engine := { rows := rows, vote := some ⟨rows, 812, 890, false⟩ } }

/-- R41: row 4 is SINGLE at 16000, page 0 is FRONT with EPS high, and the emulator aligns to the target 250 of C = 1024. -/
theorem test_vote_completion : seen .voteCompletion voting
      (fun t => (t.store.front, t.store.eps, t.engine.vote)) = some (some 0, some 900, none) ∧
    seen .voteCompletion voting
      (fun t => ((t.engine.rows.getD 4 Row.cleared).state, t.emulator.state, t.emulator.counter)) =
      some (.single, .follow, 250) := by decide +kernel

theorem test_eps_pulse_end : seen .epsPulseEnd { State.reset with store := { State.reset.store with eps := some 0 } }
    (fun t => t.store.eps) = some none := by decide +kernel

/-- R157: the first of two edges of plan 0 falls at floor(3 x 2500 / 8) = 937; a count down from 0 wraps to C - 1, whose outputs are low and high (Table 9-4). -/
theorem test_emission_edge :
    let s := { State.reset with
      clock := 937
      emulator := { State.reset.emulator with state := .follow, emission := some ⟨false, 2, 0, 0⟩, encz := true } }
    seen .emissionEdge s
      (fun t => (t.emulator.counter, t.emulator.enca, t.emulator.encb, t.emulator.encz, t.emulator.emission)) =
      some (1023, false, true, false, some ⟨false, 2, 1, 0⟩) ∧
    seen .emissionEdge { s with clock := 936 } (fun t => t.emulator.counter) = some 0 := by decide +kernel

/-- R162, R19: in LOCKOUT the vote completes without a publication. -/
theorem test_vote_completion_in_lockout : seen .voteCompletion { voting with member := { voting.member with selfState := .lockout } }
    (fun t => (t.store.front, t.store.eps, t.emulator.state, t.engine.vote.isSome, (rowOf t.engine.rows 4).state)) =
    some (none, none, .idle, false, .single) := by decide +kernel

/-- R52: a mark in LOCKOUT leaves the self-marked flag clear. -/
theorem test_mark_in_lockout : seen (.markRecognised { quiet with drove := true }) (station5 .lockout .none)
    (fun t => (t.timer.selfMarked, t.timer.epoch, t.timer.position)) = some (false, 813, .none) := by decide +kernel

/-- A station with notices pending at a schedule position, at the end of the open window. -/
def withNotices (self : SelfState) (pos : SchedulePos) (q : List NoticeEntry) : State :=
  let s := station5 self pos
  { s with clock := 1456, line := { s.line with notices := q } }

/-- Table 6-5, round 0 at station 3: of USER and FAULT the FAULT is offered. -/
theorem test_round_begin : seen (.roundBegin 0)
    (withNotices .active .gap [⟨.user, 7, 0, false, false⟩, ⟨.fault, 2, 0, false, false⟩])
    (fun t => (t.timer.roundOpen, t.line.notices.map NoticeEntry.inFlight)) = some (true, [false, true]) := by
  decide +kernel

/-- A station in a round in progress, its own notice frame as given. -/
def inRound (self : SelfState) (j : RoundNumber) (send : NoticeSend) (q : List NoticeEntry) : State :=
  let s := withNotices self (.round j) q
  { s with
    timer := { s.timer with roundOpen := true }
    line := { s.line with noticeSend := send, receiver := .searching } }

/-- The same station, whose receiver has found a notice sync in the round. -/
def hearingInRound (self : SelfState) (j : RoundNumber) (send : NoticeSend) : State :=
  let s := inRound self j send []
  { s with line := { s.line with receiver := .receiving } }

theorem test_notice_collision : seen .noticeCollision
    (inRound .active 0 (.sending 0 0) [⟨.user, 42, 0, true, false⟩]) (fun t => (t.line.noticeSend, t.line.notices)) =
    some (.lost, [⟨.user, 42, 0, false, false⟩]) := by decide +kernel

theorem test_notice_frame_complete : seen .noticeFrameComplete
    (inRound .active 0 (.sending 0 0) [⟨.user, 42, 0, true, false⟩]) (fun t => (t.line.noticeSend, t.line.receiver)) =
    some (.completed, .settled) := by decide +kernel

/-- Table 6-5, round 2 at station 1: the USER ages to 3, the LEAVE is taken, the station is WITHDRAWN. -/
theorem test_round_end_takes_leave : seen (.roundEnd 2)
    (inRound .leaving 2 .completed [⟨.user, 42, 2, false, false⟩, ⟨.leave, 0, 1, true, false⟩])
    (fun t => (t.line.notices, t.member.selfState, t.timer.deadline, t.port.events.tail)) =
    some ([⟨.user, 42, 3, false, false⟩], .withdrawn, none, [⟨.stationState, 812, none, none, some 4⟩]) := by
  decide +kernel

/-- Table 6-5, round 0 at station 0: FAULT of station 3 with LOSS_COS. -/
theorem test_notice_received : seen (.noticeReceived (noticeFrame ⟨.fault, 3, 2, 2, 0x2C⟩)) (hearingInRound .active 0 .idle)
    (fun t => ((t.member.peer 3).reported, t.line.receiver, t.port.events.tail)) =
    some (2, .settled, [⟨.noticeFault, 812, some 3, none, some 2⟩]) := by decide +kernel

/-- R112: a notice of another epoch is discarded. -/
theorem test_notice_of_other_epoch : seen (.noticeReceived (noticeFrame ⟨.fault, 3, 2, 2, 0x2D⟩)) (hearingInRound .active 0 .idle)
    (fun t => ((t.member.peer 3).reported, t.line.receiver, t.port.events.tail)) = some (0, .settled, []) := by
  decide +kernel

/-! ### The local port -/

theorem test_csn_fall : seen .csnFall State.reset (fun t => (t.port.csnLow, t.port.txn)) = some (true, .command) := by
  decide +kernel

/-- R141: a TRANSACTION pin ends with its transaction, a HELD pin stays. -/
theorem test_csn_rise : seen .csnRise { inCommand .active with store := { State.reset.store with pin := some ⟨1, .transaction⟩ } }
      (fun t => (t.port.txn, t.store.pin)) = some (.closed, none) ∧
    seen .csnRise { inCommand .active with store := { State.reset.store with pin := some ⟨1, .held⟩ } }
      (fun t => t.store.pin) = some (some ⟨1, .held⟩) := by decide +kernel

theorem test_command_byte : seen (.commandByte 0x50) (inCommand .active) (fun t => t.port.txn) =
    some (.arguments .startTest) := by decide +kernel

theorem test_bad_command : seen (.badCommand 0x00) (inCommand .active) (fun t => (t.port.txn, t.port.response)) =
    some (.ignore, [1]) := by decide +kernel

/-- Table 11-6: OK, then LISTEN with ACQUIRE; station 5 of plan 2; axis 4 with IDLE; epoch 812. -/
theorem test_read_status : seen .readStatus (inCommand .listen) (fun t => t.port.response.take 6) =
    some [0x00, 0x00, 0x25, 0x04, 0x03, 0x2C] := by decide +kernel

/-- R147: two of three records are fixed, with OVERFLOW in bit 7. -/
theorem test_read_events : seen (.readEvents 2)
    { inCommand .listen with port := { (inCommand .listen).port with
      events := [evPlain .resync 1, evPlain .epochCut 2, evPlain .resync 3], overflow := true } }
    (fun t => (t.port.toDeliver, t.port.response.length, t.port.response.take 3)) = some (2, 16, [0x00, 0x82, 14]) := by
  decide +kernel

theorem test_event_record_delivered : seen .eventRecordDelivered
    { State.reset with port := { State.reset.port with txn := .response, csnLow := true, toDeliver := 1, overflow := true } }
    (fun t => (t.port.events, t.port.toDeliver, t.port.overflow)) = some ([], 0, false) := by decide +kernel

/-- The store of Table 8-10 at its start: page 1 FRONT with epoch 4200. -/
def storeAt4200 : SnapshotStore :=
  ⟨[Page.cleared, { Page.cleared with valid := true, epoch := 4200 }, Page.cleared], 2, some 1, [0], none, none⟩

/-- Table 8-10, step 1. -/
theorem test_pin : seen .pin { inCommand .active with store := storeAt4200 } (fun t => (t.store.pin, t.port.response)) =
    some (some ⟨1, .held⟩, [0x00, 0x01, 0x10, 0x68]) := by decide +kernel

/-- Table 8-10, step 8. -/
theorem test_unpin : seen .unpin { inCommand .active with store := { storeAt4200 with pin := some ⟨1, .held⟩ } }
    (fun t => (t.store.pin, t.port.response)) = some (none, [0x00]) := by decide +kernel

/-- R141: with no pin the FRONT page is pinned for the transaction; without a FRONT page, NO_PAGE. -/
theorem test_read_page : seen .readPage { inCommand .active with store := storeAt4200 }
      (fun t => (t.store.pin, t.port.response.take 4)) = some (some ⟨1, .transaction⟩, [0x00, 0x80, 0x10, 0x68]) ∧
    seen .readPage (inCommand .active) (fun t => (t.store.pin, t.port.response.take 2)) = some (none, [0x05, 0x00]) := by
  decide +kernel

theorem test_read_peers : seen .readPeers (inCommand .active) (fun t => t.port.response.length) = some 97 := by
  decide +kernel

/-- Table 7-8, after mark 3010: both kinds leave, FLT is released, a FAULT with the empty set is posted. -/
theorem test_clear_faults : seen .clearFaults { inCommand .active with faults := ⟨0b110, true⟩ }
    (fun t => (t.faults, t.line.notices)) = some (⟨0, false⟩, [⟨.fault, 0, 0, false, false⟩]) := by decide +kernel

/-- Table 6-5: WITHDRAW posts LEAVE; in LISTEN it is WRONG_STATE. -/
theorem test_withdraw : seen .withdraw (inCommand .active) (fun t => (t.member.selfState, t.line.notices, t.port.response)) =
      some (.leaving, [⟨.leave, 0, 0, false, false⟩], [0x00]) ∧
    seen .withdraw (inCommand .listen) (fun t => t.port.response) = some [0x04] := by decide +kernel

/-- R98: REJOIN arms the deadline from the last origin, 5000 + 8 x 5 after it. -/
theorem test_rejoin : seen .rejoin (inCommand .withdrawn) (fun t => (t.member.selfState, t.timer.deadline, t.sensor.excitation)) =
    some (.joining, some 5040, some 0) := by decide +kernel

/-- R99: the epoch number and the origin stay, mark seen goes, the emulator is FROZEN. -/
theorem test_restart : seen .restart (inCommand .listen)
    (fun t => (t.member.selfState, t.timer.epoch, t.timer.origin, t.timer.markSeen, t.emulator.state)) =
    some (.listen, 812, some 0, false, .frozen) := by decide +kernel

/-- Section 10.4: START_TEST with code 1 in ACTIVE posts TEST (INJECT, START). -/
theorem test_start_test : seen (.startTest 1) (inCommand .active) (fun t => (t.tests.running, t.line.notices)) =
      some (some ⟨.inject, 0, 12⟩, [⟨.test, 1, 0, false, false⟩]) ∧
    seen (.startTest 5) (inCommand .active) (fun t => t.port.response) = some [0x02] := by decide +kernel

theorem test_clear_result : seen .clearResult
    { inCommand .active with tests := ⟨none, some ⟨.vote, .pass, some 812⟩⟩ } (fun t => (t.tests.result, t.port.response)) =
    some (none, [0x00]) := by decide +kernel

theorem test_post_notice : seen (.postNotice 42) (inCommand .active) (fun t => (t.line.notices, t.port.response)) =
    some ([⟨.user, 42, 0, false, false⟩], [0x00]) := by decide +kernel

/-! ## Witnesses: each statement's hypotheses are met, each clause at a boundary -/

theorem witness_StepTakesFrontCommand :
    ({ State.reset with pending := [.close] } : State).pending = .close :: ([] : List Instr) := rfl

theorem witness_EmptyQueueStepCountsOneBitTime : State.reset.pending = [] := rfl

/-- The station of plan 2 just before an instant of Table 3-3. -/
def before (at' : Nat) : State := { station5 .active .mark with clock := (at' : Int) - 1 }

/-- The begins and ends of the first and the last slot and round, and the close, of N = 8. -/
theorem witness_BitTimeRaisesScheduleEvents : ∀ at' ∈ [16, 160, 1024, 1168, 1200, 1264, 1392, 1456],
    (before at').pending = [] ∧ (before at').timer.markSeen = true ∧ (before at').member.selfState ≠ .lockout ∧
      (before at').timer.origin = some 0 ∧ (before at').clock + 1 = 0 + (at' : Int) := by decide +kernel

/-- Table 3-3 at those instants. -/
theorem test_schedule : (before 16).scheduleDue = [] ∧ (before 15).count.scheduleDue = [] ∧
    (before 16).count.scheduleDue = [.slotBegin 0] ∧ (before 1024).count.scheduleDue = [.slotEnd 6, .slotBegin 7] ∧
    (before 1168).count.scheduleDue = [.close] ∧ (before 1264).count.scheduleDue = [.roundEnd 0, .roundBegin 1] ∧
    (before 1456).count.scheduleDue = [.roundEnd 3] := by decide +kernel

/-- A state in which everything with a time of its own falls due at the next bit time, and none before. -/
def allDue : State :=
  let s := station5 .listen .idle
  { s with
    timer := { s.timer with deadline := some 901, listenTimer := 20039, origin := some 885 }
    line := { s.line with markDrive := .recognised, sending := some ⟨0, 799⟩, noticeSend := .sending 0 852 }
    engine := { s.engine with vote := some ⟨[], 0, 869, false⟩ }
    store := { s.store with eps := some 891 }
    emulator := { s.emulator with emission := some ⟨true, 512, 0, 894⟩ } }

theorem witness_BitTimeRaisesTimedEvents : allDue.pending = [] ∧ allDue.line.markDrive.isDriving = false ∧
    allDue.timer.deadline = some (allDue.clock + 1) ∧ allDue.member.selfState = .listen ∧
    4 * allDue.plan.period + 8 * allDue.member.ownStation.toNat = allDue.count.timer.listenTimer ∧
    allDue.line.markDrive = .recognised ∧ allDue.timer.origin = some (allDue.clock + 1 - 16) := by decide +kernel

/-- All eight fall due, beside slot 0 at 16 bit times after the origin, and the state a bit time earlier raises none. -/
theorem test_timed_events : allDue.count.due = [.epsPulseEnd, .emissionEdge, .markDriveRelease, .ownFrameComplete,
      .noticeFrameComplete, .voteCompletion, .slotBegin 0, .markDeadline, .listenTimeout] ∧ allDue.due = [] := by decide +kernel

theorem witness_UnraisedEventsChangeNothing : State.reset.timer.markSeen = false ∧
    (before 16).timer.origin = some 0 ∧ (before 16).clock < 0 + (16 + 144 * (0#4).toNat : Nat) ∧
    (before 1168).clock < 0 + (16 + 144 * (before 1168).plan.n : Nat) ∧
    (before 1200).clock < 0 + (16 + 144 * (before 1200).plan.n + 32 + 64 * (0#2).toNat : Nat) ∧
    (station5 .lockout .none).member.selfState = .lockout ∧ State.reset.port.txn = .closed := by decide

theorem witness_ResetTakesResetValues : (3#4).toNat < (planTable 0).n ∧ (planTable 0).n ≤ (4#4).toNat ∧
    (15#4).toNat < (planTable 7).n := by decide

theorem witness_ResetMeetsInvariants : exec (.reset ⟨15, 7, 7, 3, 3⟩ true) State.reset =
    .next (State.reset.atReset ⟨15, 7, 7, 3, 3⟩ true) := rfl

/-- A queue with room for four records, for one and for none. -/
theorem witness_RestartClearsAndKeeps_room : ∀ n ∈ [28, 31, 32],
    let s := { inCommand .active with
      port := { (inCommand .active).port with events := List.replicate n (evPlain .resync 0) } }
    s.port.txn = .command ∧ s.port.events.length = n ∧ s.emulator.testHold = none := by decide +kernel

/-- RESTART in range with a test in progress, room for one record; and out of range. -/
theorem witness_RestartClearsAndKeeps :
    let s := { inCommand .active with
      tests := ⟨some ⟨.pulse, 0, 4⟩, some ⟨.pulse, .running, none⟩⟩
      port := { (inCommand .active).port with events := List.replicate 31 (evPlain .resync 0) } }
    let out := { inCommand .active with timer := { (inCommand .active).timer with plan := 0 } }
    s.port.txn = .command ∧ s.member.ownStation.toNat < s.plan.n ∧ s.tests.running ≠ none ∧ s.port.events.length < 32 ∧
      out.port.txn = .command ∧ out.plan.n ≤ out.member.ownStation.toNat ∧ out.tests.running = none := by
  decide +kernel

/-- A station that drives its own cold start. -/
def coldStart : State := { station5 .listen .none with line := { State.reset.line with markDrive := .driving true 888 } }

/-- A LEAVING station at a mark that takes its completed LEAVE. -/
def leavingStation : State := { station5 .leaving (.round 3) with
  line := { State.reset.line with
    notices := [⟨.leave, 0, 2, true, false⟩, ⟨.user, 7, 1, false, false⟩], noticeSend := .completed } }

/-- R45, R97, R108: a stretch taken by a drive and by the bound, and one that is not; a LEAVE completed in flight. -/
theorem witness_MarkStartsEpoch_stretch_and_leave :
    ({ station5 .active .mark with line := { State.reset.line with markDrive := .recognised } } : State).stretchTaken = true ∧
    ({ station5 .active .mark with clock := 23 } : State).stretchTaken = true ∧
    ({ station5 .active .mark with clock := 24 } : State).stretchTaken = false ∧ State.reset.stretchTaken = false ∧
    leavingStation.stretchTaken = false ∧ leavingStation.markTakesLeave = true ∧ leavingStation.port.events.length ≤ 20 ∧
    seen (.markRecognised quiet) leavingStation (fun t => (t.member.selfState, t.line.notices, t.timer.deadline)) =
      some (.withdrawn, [⟨.user, 7, 1, false, false⟩], none) := by decide +kernel

theorem witness_MarkStartsEpoch :
    coldStart.stretchTaken = false ∧ (station5 .active .gap).stretchTaken = false ∧
    (coldStart.line.markDrive.isColdStart = true ∧ coldStart.member.selfState = .listen) ∧
    ¬((station5 .active .gap).line.markDrive.isColdStart = true ∧ (station5 .active .gap).member.selfState = .listen) ∧
    State.reset.timer.origin = none ∧ (station5 .active .gap).timer.origin = some 0 ∧
    (station5 .active .gap).timer.position = .gap ∧ (station5 .active (.round 3)).timer.position = .round 3 ∧
    (station5 .active .idle).timer.position = .idle ∧ (station5 .active .none).timer.position = .none ∧
    (station5 .active (.slot 7)).timer.position = .slot 7 ∧ (station5 .lockout .none).member.selfState = .lockout := by
  decide

/-- A converter state with an acquisition count, outside a test. -/
def convAt (c : ConverterState) (count : Nat) : State :=
  { station5 .active .idle with sensor := { State.reset.sensor with conv := c, acqCount := count } }

/-- A station with a test in progress. -/
def underTest (r : TestRun) : State :=
  { station5 .active .idle with
    tests := ⟨some r, some ⟨r.code, .running, none⟩⟩
    emulator := { State.reset.emulator with counter := 1000, testHold := if r.code = .pulse then some 1000 else none } }

theorem witness_MarkJudgesSensor :
    (∀ c ∈ [ConverterState.acquire, .track, .hold], ∀ n ∈ [14, 15], (convAt c n).tests.running = none ∧
      (convAt c n).stretchTaken = false ∧
      ¬((convAt c n).line.markDrive.isColdStart = true ∧ (convAt c n).member.selfState = .listen) ∧
      (convAt c n).sensor.conv = c ∧ (convAt c n).sensor.acqCount = n ∧ (convAt c n).port.events.length ≤ 20 ∧
      (convAt c n).member.selfState = .active ∧ (convAt c n).sensor.prevLatch = none) ∧
    trackingStation.tests.running = none ∧ trackingStation.sensor.prevLatch = some 12000 ∧
    (quiet.sinLow || quiet.cosLow || quiet.excAbsent) = false ∧ quiet.belowLock = true := by decide +kernel

/-- A mark under INJECT and under MONITOR, and a cold-start mark. -/
theorem witness_MarkJudgesSensor_tests : coldStart.stretchTaken = false ∧
    coldStart.line.markDrive.isColdStart = true ∧ coldStart.member.selfState = .listen ∧
    (∀ c ∈ [TestCode.inject, .monitor], (underTest ⟨c, 0, c.length⟩).stretchTaken = false ∧
      (underTest ⟨c, 0, c.length⟩).tests.running = some ⟨c, 0, c.length⟩) := by decide +kernel

/-- With the kind not held before, the reported part changes at this mark. -/
theorem witness_MarkJudgesSensor_new_kind :
    seen (.markRecognised { quiet with sinLow := true }) (convAt .track 16)
      (fun t => decide (reportedPart t.faults.held ≠ reportedPart (convAt .track 16).faults.held)) = some true := by
  decide +kernel

theorem witness_MarkInSlotCutsEpoch : (station5 .active (.slot 0)).stretchTaken = false ∧
    (station5 .active .gap).stretchTaken = false ∧ (station5 .active (.slot 0)).port.events.length ≤ 20 ∧
    (station5 .active (.slot 0)).timer.position = .slot 0 ∧ (station5 .active .gap).timer.position = .gap ∧
    (station5 .active .gap).port.events.length ≤ 20 := by decide

/-- R54 at that mark. -/
theorem test_mark_cuts : seen (.markRecognised quiet) (station5 .active (.slot 0)) (fun t => t.port.events.tail) =
    some [⟨.epochCut, 812, none, none, none⟩] := by decide +kernel

theorem witness_ColdStartMarkJoins : coldStart.line.markDrive = .driving true 888 ∧ coldStart.stretchTaken = false ∧
    coldStart.member.selfState = .listen ∧
    coldStart.port.events.length ≤ 20 := by decide

theorem witness_InjectStepLatchesAngle : ∀ x ∈ [(0, 0x1555#16), (3, 0x1555#16), (4, 0x9AAA#16), (7, 0x9AAA#16), (8, 0xF000#16), (11, 0xF000#16)],
    let s := underTest ⟨.inject, x.1, 12 - x.1⟩
    s.tests.running = some ⟨.inject, x.1, 12 - x.1⟩ ∧ x.1 < 12 ∧
      s.stretchTaken = false ∧ ¬(s.line.markDrive.isColdStart = true ∧ s.member.selfState = .listen) ∧
      x.2 = (if x.1 < 4 then 0x1555#16 else if x.1 < 8 then 0x9AAA#16 else 0xF000#16) ∧
      circMag (x.2 + 2) x.2 ≤ 2 ∧ 2 < circMag (x.2 - 3) x.2 := by decide +kernel

theorem witness_MonitorAndPulseSteps :
    (∀ i ∈ [0, 1, 8, 9], (underTest ⟨.monitor, i, 10 - i⟩).tests.running = some ⟨.monitor, i, 10 - i⟩ ∧
      (0b11111#5).getLsbD (i / 2) = true ∧ (0#5).getLsbD (i / 2) = false) ∧
    (∀ i ∈ [0, 1, 2, 3], (underTest ⟨.pulse, i, 4 - i⟩).tests.running = some ⟨.pulse, i, 4 - i⟩ ∧
      (underTest ⟨.pulse, i, 4 - i⟩).emulator.testHold = some 1000 ∧
      1000 < (underTest ⟨.pulse, i, 4 - i⟩).emulator.perTurn ∧
      (underTest ⟨.pulse, i, 4 - i⟩).stretchTaken = false ∧
      ¬((underTest ⟨.pulse, i, 4 - i⟩).line.markDrive.isColdStart = true ∧
        (underTest ⟨.pulse, i, 4 - i⟩).member.selfState = .listen)) := by decide +kernel

/-- PULSE in progress at the mark of the own cold start; and a mark with no test and one with VOTE in progress. -/
def pulseAtColdStart : State := { coldStart with
  tests := (underTest ⟨.pulse, 0, 4⟩).tests, emulator := (underTest ⟨.pulse, 0, 4⟩).emulator }

theorem witness_MonitorAndPulseSteps_cold_and_none :
    pulseAtColdStart.stretchTaken = false ∧ pulseAtColdStart.line.markDrive.isColdStart = true ∧
    pulseAtColdStart.member.selfState = .listen ∧ pulseAtColdStart.port.events.length ≤ 20 ∧
    pulseAtColdStart.tests.running = some ⟨.pulse, 0, 4⟩ ∧
    (underTest ⟨.vote, 0, 1⟩).tests.running = some ⟨.vote, 0, 1⟩ ∧ (underTest ⟨.vote, 0, 1⟩).stretchTaken = false ∧
    (station5 .active .mark).tests.running = none ∧ (station5 .active .mark).stretchTaken = false := by decide +kernel

/-- R169: MONITOR fails at mark 1 in ACTIVE with SELFTEST not held: the END notice 0x2A, then FAULT with SELFTEST. -/
theorem test_monitor_fails :
    seen (.markRecognised quiet) (underTest ⟨.monitor, 0, 10⟩)
      (fun t => (t.faults.held, t.port.events.length, t.line.notices.map NoticeEntry.argument)) =
      some (0b100000, 3, [0x2A, 0x20]) ∧
    seen (.markRecognised quiet) (underTest ⟨.monitor, 0, 10⟩)
      (fun t => t.port.events.contains ⟨.testDone, 813, none, none, some 0x2A⟩) = some true := by decide +kernel

/-- R168: from 1000 of 1024 the move of mark 1 passes 0, and a readback of 76 passes mark 2. -/
theorem test_pulse_moves :
    seen (.markRecognised quiet) (underTest ⟨.pulse, 0, 4⟩) (fun t => t.emulator.testHold) = some (some 76) ∧
    seen (.markRecognised { quiet with countReadback := 76 }) (underTest ⟨.pulse, 1, 3⟩) (fun t => t.tests.running) =
      some (some ⟨.pulse, 2, 2⟩) := by decide +kernel

/-- A deadline at the clock and one after it, a timeout at its value and one before it, each with the drive of a mark idle
and on; and each level clause, at the first and the last bit. -/
theorem witness_MarkDrivesBeginAndEnd :
    (∀ c ∈ [5039, 5040], (({ station5 .active .idle with clock := c } : State).timer.deadline = some 5040 ∧
      ({ station5 .active .idle with clock := c } : State).line.markDrive = .idle)) ∧
    coldStart.line.markDrive = .driving true 888 ∧ coldStart.timer.deadline = none ∧ coldStart.member.selfState = .listen ∧
    (∀ n ∈ [20039, 20040], (listening n).member.selfState = .listen ∧ (listening n).line.markDrive = .idle) ∧
    4 * (listening 20040).plan.period + 8 * (listening 20040).member.ownStation.toNat = 20040 ∧
    allDue.line.markDrive = .recognised ∧ sendingStation.line.markDrive = .idle ∧
    sendingStation.line.sending = some ⟨0, 700⟩ ∧ sendingStation.line.noticeSend = .idle ∧
    (∀ i ∈ [0, 101], ({ sendingStation with clock := 700 + (i : Nat) } : State).clock = 700 + (i : Int)) ∧
    (inRound .active 0 (.sending 0 1408) []).line.sending = none ∧
    (inRound .active 0 (.sending 0 1408) []).clock = 1408 + (48 : Nat) := by decide

/-- The own slot with and without a frame to send, another slot, from MARK and from the slot before. -/
theorem witness_SlotBeginSendsOrSearches : ∀ s ∈ [station5 .active .mark, station5 .joining (.slot 4), station5 .listen .mark],
    s.timer.markSeen = true ∧ s.member.selfState ≠ .lockout ∧ (5#4).toNat < s.plan.n ∧ (7#4).toNat < s.plan.n ∧
      (s.timer.position = .mark ∨ s.timer.position = .slot 4 ∧ (4#4).toNat < (5#4).toNat) ∧
      5#4 = s.member.ownStation ∧ 7#4 ≠ s.member.ownStation ∧ s.line.outcome = .none ∧ s.timer.origin = some 0 ∧
      ∀ x ∈ [(5#4, 736), (7#4, 1024)], (0 + (16 + 144 * x.1.toNat : Nat) : Int) = ({ s with clock := x.2 } : State).clock := by
  decide

theorem witness_OwnFramesEnd : sendingStation.line.outcome = .sending ∧
    allDue.line.noticeSend = .sending 0 852 := by decide

/-- R64, R72: a frame completed in LEAVING is noted, one completed in ACTIVE is not. -/
theorem test_frame_after_withdraw : ∀ x ∈ [(SelfState.leaving, true), (.active, false)],
    seen .ownFrameComplete { sendingStation with member.selfState := x.1 } (fun t => (t.line.outcome, t.line.sentLate)) =
      some (.sent, x.2) := by decide +kernel

/-- An awaited collision of a bound station with a test in progress. -/
def collided : State :=
  let s := underTest ⟨.monitor, 3, 7⟩
  { s with
    line := { s.line with awaiting := true }
    member := { s.member with ownBound := true }
    engine := { s.engine with rows := (List.replicate 8 Row.cleared).set 4 (rowWith [voter 5 0 0]) } }

theorem witness_CollisionJudgementLocksOut : collided.line.awaiting = true ∧ collided.member.selfState ≠ .lockout ∧
    collided.member.ownBound = true ∧ collided.tests.running ≠ none ∧ collided.port.events.length ≤ 20 := by
  decide +kernel

theorem witness_CollisionJudgementLocksOut_bound_once : boundOnce collided.engine.rows := by
  unfold boundOnce; decide +kernel

/-- The same collision with PULSE, with VOTE in a vote, and with no test in progress. -/
theorem witness_CollisionJudgementLocksOut_tests :
    let pulse := { collided with tests := (underTest ⟨.pulse, 1, 3⟩).tests, emulator := (underTest ⟨.pulse, 1, 3⟩).emulator }
    let vote := { collided with
      tests := (underTest ⟨.vote, 0, 1⟩).tests
      engine := { collided.engine with vote := some ⟨collided.engine.rows, 812, 890, true⟩ } }
    let none' := { collided with tests := ⟨none, none⟩ }
    pulse.line.awaiting = true ∧ pulse.tests.runs .pulse = true ∧ pulse.emulatorSound ∧ vote.line.awaiting = true ∧
      vote.tests.runs .vote = true ∧ none'.line.awaiting = true ∧ none'.tests.running = none := by
  unfold State.emulatorSound; decide +kernel

/-- For each check of Table 4-4 a frame that fails it first, and one that passes them all. -/
theorem witness_SampleFrameTakesItsForm :
    (∀ s ∈ [receivingIn .active (.slot 0), receivingIn .active (.slot 5), receivingIn .listen (.slot 5)],
      s.timer.markSeen = true ∧ s.member.selfState ≠ .lockout ∧ s.line.receiver = .receiving) ∧
    (station5 .active (.slot 0)).line.receiver ≠ .receiving ∧
    sampleCheckOk 0 = false ∧ (0 : BitVec 102).extractLsb' 94 8 ≠ 0xB4#8 ∧
    sampleCheckOk ((0xB4#8 ++ (0 : BitVec 94))) = false ∧
    ((0xB4#8 ++ (0 : BitVec 94)) : BitVec 102).extractLsb' 94 8 = 0xB4#8 ∧
    (∀ k ∈ [0#4, 5#4], (sampleFrame 2 (frameOf k 812 0)).extractLsb' 94 8 = 0xB4#8 ∧
      (sampleFrame 3 (frameOf k 812 0)).extractLsb' 94 8 = 0xB4#8) ∧
    (∀ k ∈ [0#4, 5#4], sampleCheckOk (sampleFrame 2 (frameOf k 812 0)) = true ∧
      samplePlan (sampleFrame 2 (frameOf k 812 0)) = (station5 .active .mark).timer.plan ∧
      (sampleRecord (sampleFrame 2 (frameOf k 812 0))).station = k ∧
      samplePlan (sampleFrame 3 (frameOf k 812 0)) ≠ (station5 .active .mark).timer.plan ∧
      sampleCheckOk (sampleFrame 3 (frameOf k 812 0)) = true) ∧
    (0#4 ≠ (station5 .active .mark).member.ownStation ∧ 5#4 = (station5 .active .mark).member.ownStation) := by
  decide +kernel

theorem witness_ReceiverFollowsLine :
    ({ receivingIn .active (.slot 0) with line := { State.reset.line with receiver := .searching } } : State).line.receiver =
      .searching ∧
    (receivingIn .active (.slot 0)).line.receiver = .receiving ∧ (receivingIn .active (.slot 0)).timer.markSeen = true ∧
    (receivingIn .active (.slot 0)).timer.position = .slot 0 ∧
    (inRound .active 3 .idle []).timer.roundOpen = true ∧ (inRound .active 3 .idle []).line.receiver = .searching ∧
    (inRound .active 3 .idle []).timer.position = .round 3 ∧ (inRound .active 3 .idle []).member.selfState ≠ .lockout ∧
    (receivingIn .active (.slot 0)).timer.origin = some 0 ∧
    (0 + (16 + 144 * ((0#4).toNat + 1) : Nat) : Int) ≤ (receivingIn .active (.slot 0)).clock := by
  decide

/-- The close of section 4.10 meets what the statements about a close ask, from MARK as from the last slot. -/
theorem witness_CloseLatchesHeardSetAndCounts : ∀ s ∈ [closing .active bufferAt812 .sent, { station5 .listen .mark with clock := 1168 }],
    s.timer.markSeen = true ∧ s.member.selfState ≠ .lockout ∧ s.timer.origin = some 0 ∧
      (0 + (16 + 144 * s.plan.n : Nat) : Int) = s.clock ∧
      (s.timer.position = .mark ∨ s.timer.position = .slot 7) ∧ s.line.buffer.length = 16 := by decide +kernel

/-- R54: a CLOSE and a SLOT_BEGIN that wait behind a mark are of the epoch it cuts, and change nothing. -/
theorem test_close_behind_a_mark : seen (.markRecognised quiet) (closing .active bufferAt812 .sent)
    (fun t => (seen .close t fun u => decide (u = t), seen (.slotBegin 7) t fun u => decide (u = t))) =
    some (some true, some true) := by decide +kernel

/-- R51: the close one bit time early. -/
theorem test_close_early : seen .close { closing .active bufferAt812 .sent with clock := 1167 }
    (fun t => t.timer.position) = some (.slot 7) := by decide +kernel

/-- A station at the close whose frame was completed in LEAVING, after the change of state. -/
def closingLate : State :=
  let s := closing .leaving bufferAt812 .sent
  { s with line := { s.line with sentLate := true } }

/-- A buffer with one frame, of station 7, that carries the next number. -/
def next7 : List SlotRecord := List.replicate 7 .empty ++ [.valid (frameOf 7 813 0)] ++ List.replicate 8 .empty

/-- R72: SENT in LEAVING for a frame completed before the change, and so the tie goes to 812, of the lower carrier; NONE
in WITHDRAWN and LISTEN, and 813 is adopted. -/
theorem test_close_hands_outcome :
    seen .close (closing .leaving next7 .sent) (fun t => t.timer.epoch) = some 812 ∧
    seen .close (closing .withdrawn next7 .sent) (fun t => t.timer.epoch) = some 813 ∧
    seen .close (closing .listen next7 .sent) (fun t => t.timer.epoch) = some 813 := by decide +kernel

theorem witness_CloseAdoptsMajorityEpoch_late : closingLate.sentAfterLeaving = true ∧
    (closing .leaving next7 .sent).sentAfterLeaving = false ∧ closingLate.line.record 5 = .empty ∧
    closingLate.member.ownStation = 5 ∧ closingLate.timer.markSeen = true ∧ closingLate.timer.position = .slot 7 ∧
    closingLate.timer.origin = some 0 ∧ (0 + (16 + 144 * closingLate.plan.n : Nat) : Int) ≤ closingLate.clock ∧
    (closing .listen next7 .sent).member.selfState = .listen := by decide +kernel

theorem witness_CloseAdoptsMajorityEpoch :
    (closing .active bufferAt812 .sent).line.record (closing .active bufferAt812 .sent).member.ownStation = .empty := by
  decide +kernel

/-- A table of peers with one entry in a state with runs. -/
def withPeer (s : State) (k : Station) (p : PeerEntry) : State := { s with member := s.member.setPeer k p }

/-- Every row of Tables 5-6 and 5-7: a peer with and without an admitted frame, SILENT at 2 and at 3 misses; the own entry;
an entry at N. -/
def peerCase (x : PeerState × Nat × Nat) (k : Station) : State :=
  withPeer (closing .active bufferAt812 .sent) k
    { PeerEntry.cleared with state := x.1, heardRun := x.2.1, missRun := x.2.2 }

/-- The cases of the peer state, heard run and miss run. -/
def peerCases : List (PeerState × Nat × Nat) :=
  [(.absent, 0, 0), (.new, 1, 0), (.present, 0, 0), (.silent, 0, 2), (.silent, 0, 3)]

theorem witness_CloseUpdatesPeers : ∀ x ∈ peerCases, ∀ k ∈ [2#4, 7#4],
    let s := peerCase x k
    s.timer.markSeen = true ∧ s.member.selfState ≠ .lockout ∧ s.timer.position = .slot 7 ∧ s.member.peers.length = 16 ∧
      (s.member.peer k).state = x.1 ∧ k ≠ s.member.ownStation ∧ k.toNat < s.plan.n ∧
      (s.member.peer s.member.ownStation).state.counted = false ∧ s.plan.n ≤ (8#4).toNat ∧
      (s.line.record 2).frame?.isSome = true ∧ s.line.record 7 = .empty ∧ s.line.record 5 = .empty ∧
      s.engine.vote = none ∧ s.timer.origin = some 0 ∧ (0 + (16 + 144 * s.plan.n : Nat) : Int) ≤ s.clock := by
  decide +kernel

theorem witness_CloseUpdatesPeers_peers : ∀ x ∈ peerCases, ∀ k ∈ [2#4, 7#4], (peerCase x k).peersSound := by
  unfold State.peersSound; decide +kernel

theorem witness_CloseUpdatesPeers_listed : ∀ x ∈ peerCases, ∀ k ∈ [2#4, 7#4], (peerCase x k).listedSound := by
  unfold State.listedSound; decide +kernel

/-- Their Axis Table is the cleared one. -/
theorem tableSound_of_cleared (s : State) (h : s.engine = ⟨List.replicate 8 Row.cleared, none⟩)
    (hp : 1 ≤ s.plan.stale) : s.tableSound := by
  refine ⟨by simp [h], ?_, by simp [h, boundOnce, Row.cleared], by simp [h]⟩
  intro r hr
  rw [h] at hr
  obtain rfl := List.eq_of_mem_replicate hr
  refine ⟨⟨by decide, by simp [stationsAscend, Row.cleared], by simp [runsInRange, Row.cleared], by decide, ?_⟩,
    by simp [Row.consistent, Row.cleared]⟩
  simp [Row.cleared]
  omega

theorem witness_CloseUpdatesPeers_table : ∀ x ∈ peerCases, ∀ k ∈ [2#4, 7#4], (peerCase x k).tableSound := by
  intro x hx k hk
  exact tableSound_of_cleared _ rfl (by revert x k; decide)

/-- A claim that is answered: PRESENT at axis 0 with a frame of the same axis, bound as the first of its row (R10, R101);
and the own station, bound to its axis beside it. -/
theorem test_close_claims : seen .close (peerCase (.present, 0, 0) 2)
    (fun t => ((t.member.peer 2).bound, t.member.ownBound, (rowOf t.engine.rows 0).has 2, (rowOf t.engine.rows 4).has 5)) =
    some (true, true, true, true) := by decide +kernel

/-- A table with sources: station 2 bound to axis 1, which its frame leaves for axis 0, and station 7 bound to axis 0 at
its third miss; each the last source of its row. -/
def boundCase : State :=
  let bound (state : PeerState) (axis : Axis) (miss : Nat) : PeerEntry :=
    { PeerEntry.cleared with state := state, axis := axis, missRun := miss, bound := true }
  let s := withPeer (withPeer (closing .active bufferAt812 .sent) 2 (bound .present 1 0)) 7 (bound .silent 0 3)
  { s with engine.rows := [rowWith [voter 7 0 0], rowWith [voter 2 0 0]] ++ List.replicate 6 Row.cleared }

theorem witness_CloseUpdatesPeers_bound : boundCase.peersSound ∧ boundCase.listedSound ∧
    (boundCase.member.peer 2).axis ≠ 0 ∧ (boundCase.line.record 2).frame?.map FrameRecord.axis = some 0 ∧
    (boundCase.member.peer 7).missRun = 3 ∧ boundCase.line.record 7 = .empty ∧ boundCase.timer.origin = some 0 ∧
    (0 + (16 + 144 * boundCase.plan.n : Nat) : Int) ≤ boundCase.clock := by
  unfold State.peersSound State.listedSound; decide +kernel

theorem witness_CloseUpdatesPeers_bound_table : boundCase.tableSound := by
  unfold State.tableSound Row.sound Row.consistent stationsAscend runsInRange boundOnce; decide +kernel

/-- R81, R12, R10 at that close: UNBOUND of axis 1, PEER_LOST of station 7 and UNBOUND of axis 0 in step 2; then LOST of
axis 0 for the claim of station 2 and of axis 4 for the own, the first VOTING sources of their rows. -/
theorem test_close_rebinds : seen .close boundCase
    (fun t => (t.port.events.tail, (rowOf t.engine.rows 0).sources.map fun x => (x.station, x.standing))) =
    some ([evRowState 812 1 .unbound false, ⟨.peerLost, 812, some 7, none, none⟩, evRowState 812 0 .unbound false,
      evRowState 812 0 .lost false, evRowState 812 4 .lost false], [(2, .voting)]) := by decide +kernel

/-- At those closes ACTIVE stays, station 2's frame carries the number the close leaves, and a SILENT peer at its fourth
miss is lost (Table 5-7). -/
theorem test_close_loses_peer :
    seen .close (withPeer (closing .active bufferAt812 .sent) 7 { PeerEntry.cleared with state := .silent, missRun := 3 })
      (fun t => (t.member.selfState, t.timer.epoch, (t.member.peer 7).state, t.port.events.tail.head?)) =
    some (.active, 812, .absent, some ⟨.peerLost, 812, some 7, none, none⟩) := by decide +kernel

/-- A buffer of station 2's frame of an epoch with a heard set, and one on which only another plan is heard. -/
def heardBuffer (e : Epoch) (heard : StationSet) : List SlotRecord :=
  [.empty, .empty, .valid (frameOf 2 e heard)] ++ List.replicate 13 .empty

/-- A buffer on which only another plan is heard. -/
def foreignBuffer : List SlotRecord := .invalid .plan :: List.replicate 15 .empty

/-- A close with station 2 PRESENT and runs one below their limits: listen run 1, plan-mismatch run 7, join run 2, join-epoch
count 15, unheard run 3. -/
def closeCase (self : SelfState) (buffer : List SlotRecord) (outcome : TxOutcome) : State :=
  let s := withPeer (closing self buffer outcome) 2 { PeerEntry.cleared with state := .present }
  { s with member := { s.member with
      listenRun := 1, mismatchRun := 7, joinRun := 2, joinEpochs := 15, unheardRun := 3 } }

/-- The closes of `witness_CloseStartsVote`, one for each way out of a self state. -/
def closeCases : List State :=
  [closeCase .active (heardBuffer 812 0x20) .sent, closeCase .active (heardBuffer 812 0) .sent,
    closeCase .active (heardBuffer 900 0x20) .none, closeCase .joining (heardBuffer 812 0x20) .sent,
    closeCase .joining (heardBuffer 812 0) .sent, closeCase .joining (heardBuffer 812 0) .none,
    closeCase .listen (heardBuffer 812 0) .none, closeCase .listen foreignBuffer .none,
    closeCase .leaving (heardBuffer 812 0) .none]

theorem witness_CloseStartsVote : ∀ s ∈ closeCases, s.timer.markSeen = true ∧ s.member.selfState ≠ .lockout ∧
    s.timer.position = .slot 7 ∧ s.engine.vote = none ∧ s.line.record s.member.ownStation = .empty ∧
    s.timer.origin = some 0 ∧ (0 + (16 + 144 * s.plan.n : Nat) : Int) ≤ s.clock := by decide +kernel

theorem witness_CloseStartsVote_sound : ∀ s ∈ closeCases, s.tableSound ∧ s.peersSound ∧ s.listedSound := by
  intro s hs
  refine ⟨tableSound_of_cleared s ?_ ?_, ?_⟩
  · revert s; decide +kernel
  · revert s; decide +kernel
  · revert s; unfold State.peersSound State.listedSound; decide +kernel

/-- Each leaves the self state that its rule gives: R94, R94, R83, R93, R93, R93, R90, R91, R81. -/
theorem test_close_self_states : closeCases.map (fun s => seen .close s fun t => t.member.selfState) =
    [some .active, some .listen, some .joining, some .active, some .listen, some .joining, some .joining, some .lockout,
      some .leaving] := by decide +kernel

/-- The table of section 1.5 is one that R2 to R4 and R13 describe; rows with three, two and no sources. -/
theorem witness_BindClaimIsAnswered : fullTable.length = 8 ∧ (rowOf fullTable 3).has 1 = true ∧
    (rowOf fullTable 3).has 2 = false ∧ (rowOf fullTable 3).sources.length = 3 ∧ (rowOf fullTable 0).sources = [] ∧
    (rowOf fullTable 0).has 2 = false ∧ (rowOf (unbindRows 501 fullTable 4).1 3).sources.length = 2 ∧
    boundOnce fullTable := by
  unfold boundOnce; decide +kernel

/-- A claim of a station that is the last source of another row, and one of a station with a companion there. -/
theorem witness_BindClaimIsAnswered_moves : ∀ l ∈ [[voter 2 0 0], [voter 2 0 0, voter 9 0 0]],
    let table := fullTable.set 0 (rowWith l)
    table.length = 8 ∧ boundOnce table ∧ (rowOf table 3).has 2 = false ∧ (rowOf table 1).has 2 = false ∧
      (rowOf table 0).has 2 = true := by
  unfold boundOnce; decide +kernel

theorem witness_BindClaimIsAnswered_sound : ∀ r ∈ fullTable, r.sound (planTable 2) ∧ r.consistent := by
  unfold Row.sound Row.consistent stationsAscend runsInRange; decide +kernel

/-- A row of three, a row of one and no row of the station. -/
theorem witness_UnbindClaimRemovesRecord : boundOnce (fullTable.set 0 (rowWith [voter 0 0 0])) ∧
    (fullTable.set 0 (rowWith [voter 0 0 0])).length = 8 ∧ (rowOf (fullTable.set 0 (rowWith [voter 0 0 0])) 0).has 0 = true ∧
    (rowOf fullTable 3).has 4 = true ∧ (∀ a : Axis, (rowOf fullTable a).has 9 = false) := by
  unfold boundOnce; decide +kernel

/-- A vote in flight in which the VOTE self-test runs. -/
def votingUnderTest : State := { voting with
  engine := { voting.engine with vote := voting.engine.vote.map fun v => { v with testRuns := true } }
  tests := ⟨some ⟨.vote, 0, 1⟩, some ⟨.vote, .running, none⟩⟩ }

theorem witness_VoteCompletionPublishes : State.reset.engine.vote = none ∧ voting.engine.vote.map VoteInFlight.testRuns = some false ∧
    voting.engine.rows.length = 8 ∧ voting.engine.vote.map (fun v => v.rows.length) = some 8 ∧ voting.rolesSound := by
  unfold State.rolesSound; decide +kernel

/-- The same vote in flight in the two states that publish nothing. -/
theorem witness_VoteCompletionPublishes_silent : ∀ self ∈ [SelfState.listen, .lockout],
    let s := { voting with member.selfState := self }
    s.engine.vote = voting.engine.vote ∧ s.engine.rows.length = 8 ∧ s.rolesSound ∧ voting.member.selfState.votes = true := by
  unfold State.rolesSound; decide +kernel

theorem witness_VoteRecordsStandInOrder_test : votingUnderTest.engine.vote.map VoteInFlight.testRuns = some true ∧
    votingUnderTest.tests.runs .vote = true ∧ votingUnderTest.engine.rows.length = 8 ∧
    votingUnderTest.engine.vote.map (fun v => v.rows.length) = some 8 := by decide +kernel

/-- R167, R169: the VOTE test ends with its vote, TEST_DONE last: code 3, END, PASS. -/
theorem test_vote_test_ends : seen .voteCompletion votingUnderTest
    (fun t => (t.tests, t.port.events.getLast?)) =
    some (⟨none, some ⟨.vote, .pass, some 812⟩⟩, some ⟨.testDone, 812, none, none, some 0x1B⟩) := by decide +kernel

theorem witness_VoteRecordsStandInOrder : voting.engine.vote.map VoteInFlight.testRuns = some false ∧
    voting.engine.vote.map (fun v => v.rows.length) = some 8 ∧ voting.engine.rows.length = 8 := by decide +kernel

/-- Table 2-8, epoch 1005: AGREED by two. -/
theorem witness_AgreedAngleLiesWithinTolerance : stationsAscend (rowWith [voter 0 20200 40, voter 1 20210 40]).sources ∧
    (rowWith [voter 0 20200 40, voter 1 20210 40]).sources.length ≤ 3 ∧
    ((rowWith [voter 0 20200 40, voter 1 20210 40]).vote (planTable 0) 1005).1.state = .agreed := by
  unfold stationsAscend; decide +kernel

/-- One usable VOTING sample beside a VOTING source without one. -/
theorem witness_OneSampleIsSingle :
    let r := rowWith [voter 0 5000 10, { voter 1 0 0 with sample := none }]
    (voter 0 5000 10 ∈ r.sources ∧ (voter 0 5000 10).standing = .voting ∧
      (voter 0 5000 10).sample = some ⟨5000, 10, true⟩) ∧ stationsAscend r.sources ∧
      ∀ q ∈ r.sources, q.standing = .voting → q.station ≠ 0 → q.sample = none := by
  unfold stationsAscend; decide +kernel

/-- Exactly at TOL and one beyond (plan 2). -/
theorem witness_TwoSamplesMeetOrSplit :
    (rowWith [voter 1 1000 0, voter 4 1128 0]).usableVoting = [⟨1, 1000, 0⟩, ⟨4, 1128, 0⟩] ∧
    stationsAscend (rowWith [voter 1 1000 0, voter 4 1128 0]).sources ∧
    circMag 1128 1000 = (planTable 2).tol ∧ (planTable 2).tol < circMag 1129 1000 ∧
    (rowWith [voter 1 1000 0, voter 4 1129 0]).usableVoting = [⟨1, 1000, 0⟩, ⟨4, 1129, 0⟩] ∧
    stationsAscend (rowWith [voter 1 1000 0, voter 4 1129 0]).sources := by
  unfold stationsAscend; decide +kernel

/-- Agreement with the median at TOL, the opposite pair (Table 2-4), and three apart. -/
theorem witness_ThreeSamplesTakeTheMedian :
    (tripleVerdict 256 ⟨1, 100, 0⟩ ⟨4, 356, 0⟩ ⟨9, 30000, 0⟩).outside = some 9 ∧
    (tripleVerdict 256 ⟨1, 100, 4⟩ ⟨4, 32800, 4⟩ ⟨9, 32950, 4⟩).outside = some 1 ∧
    (tripleVerdict 256 ⟨1, 100, 0⟩ ⟨4, 357, 0⟩ ⟨9, 614, 0⟩).state = .split := by decide +kernel

/-- A row whose three VOTING sources give such samples. -/
theorem witness_ThreeSamplesTakeTheMedian_row (x y z : Angle) :
    (rowWith [voter 1 x 0, voter 4 y 0, voter 9 z 0]).usableVoting = [⟨1, x, 0⟩, ⟨4, y, 0⟩, ⟨9, z, 0⟩] ∧
    stationsAscend (rowWith [voter 1 x 0, voter 4 y 0, voter 9 z 0]).sources := by
  refine ⟨rfl, ?_⟩
  simp [stationsAscend, rowWith, voter]

/-- Hold age at 254 and at its end, with a fresh and a held result. -/
theorem witness_RowSettlesFreshOrHeld : ({ rowWith [] with holdAge := 255 } : Row).holdAge ≤ 255 ∧
    (({ rowWith [] with holdAge := 255 } : Row).vote (planTable 0) 0).1.state = .unbound ∧
    ((rowWith [voter 0 5000 10]).vote (planTable 0) 0).1.state = .single := by decide +kernel

/-- A DIV-1 and a READMIT-1 run, and one below each (plan 2: DIV 6, READMIT 24), with a sample at TOL and one beyond. -/
theorem witness_SourcesEarnAndLoseStanding :
    let v : Verdict := ⟨.agreed, some (1000, 10, 0b11), [0, 1], some 2⟩
    (∀ n ∈ [4, 5], ({ voter 2 5000 0 with disagreeRun := n } : Source).standing = .voting ∧ 2 ∉ v.agreed ∧
      v.outside = some ({ voter 2 5000 0 with disagreeRun := n } : Source).station ∧ n + 1 ≤ (planTable 2).div) ∧
    (∀ n ∈ [22, 23], ({ voter 3 1128 0 with standing := .candidate, agreeRun := n } : Source).standing ≠ .voting ∧
      ({ voter 3 1128 0 with standing := .candidate, agreeRun := n } : Source).sample = some ⟨1128, 0, true⟩ ∧
      n + 1 ≤ (planTable 2).readmit) ∧
    circMag 1128 1000 = (planTable 2).tol ∧ (planTable 2).tol < circMag 1129 1000 ∧ splitVerdict.fresh = none ∧
    ({ voter 3 0 0 with standing := .diverged, sample := none } : Source).standing ≠ .voting := by decide +kernel

/-- A row whose VOTING sources have no usable sample. -/
theorem witness_SourcesEarnAndLoseStanding_unheard :
    (rowWith [{ voter 1 0 0 with sample := none, disagreeRun := 3 }, voter 4 0 0 |> fun q => { q with standing := .candidate }]).rebuild.1.usableVoting
      = [] ∧
    ({ voter 1 0 0 with sample := none, disagreeRun := 3 } : Source).standing = .voting := by decide +kernel

/-- A row without sources, one without a VOTING source, and one with a VOTING source beside a probation one. -/
theorem witness_SourcesEarnAndLoseStanding_rebuild :
    Row.cleared.sources = [] ∧
    (∀ q ∈ [{ voter 3 0 0 with standing := .diverged }, ({ voter 4 0 0 with standing := .candidate } : Source)],
      q.standing ≠ .voting) ∧
    (∃ q ∈ [voter 1 0 0, ({ voter 4 0 0 with standing := .candidate } : Source)], q.standing = .voting) := by
  decide +kernel

/-- An emulator in FOLLOW one edge before its last, at a count with the outputs shown. -/
def lastEdge (up : Bool) (counter : Nat) : PulseEmulator :=
  PulseEmulator.show ⟨0, .follow, counter, some ⟨up, 5, 4, 0⟩, none, false, false, false⟩

theorem witness_OutputsMoveByOneEdge : ∀ x ∈ [(true, 1023), (false, 0), (true, 0), (false, 1023)],
    let s := { State.reset with clock := 1875, emulator := lastEdge x.1 x.2 }
    (0 + (3 * s.plan.period * (4 + 1) / (4 * 5) : Nat) : Int) = s.clock ∧
    ({ s with clock := 1874 } : State).clock < 0 + (3 * s.plan.period * (4 + 1) / (4 * 5) : Nat) ∧
    State.reset.emulator.emission = none ∧ s.emulatorSound ∧ s.emulator.emission = some ⟨x.1, 5, 4, 0⟩ ∧ s.emulator.state = .follow := by
  unfold State.emulatorSound; decide +kernel

/-- d of 0, 512, 513 and half a turn from counter 0 of C = 4096; each state and class. -/
theorem witness_EmulatorTakesPublication :
    (∀ st ∈ [EmulatorState.idle, .follow, .lagging, .frozen], (emulatorAt st 0).counter < (emulatorAt st 0).perTurn ∧
      (emulatorAt st 0).testHold = none ∧ (emulatorAt st 0).state = st) ∧
    (PageRow.cls ⟨.agreed, false, true, 0, 8192, 0, 0, 0⟩ = .fresh ∧ PageRow.cls ⟨.lost, false, true, 1, 0, 0, 0, 0⟩ = .held ∧
      PageRow.cls ⟨.lost, true, true, 16, 0, 0, 0, 0⟩ = .unavailable ∧ PageRow.cls PageRow.cleared = .unavailable) ∧
    ((emulatorAt .follow 0).publish ⟨.agreed, false, true, 0, 8192, 0, 0, 0⟩ 0).state = .follow ∧
    ((emulatorAt .follow 0).publish ⟨.agreed, false, true, 0, 8208, 0, 0, 0⟩ 0).state = .lagging ∧
    ((emulatorAt .follow 0).publish ⟨.agreed, false, true, 0, 32768, 0, 0, 0⟩ 0).emission = some ⟨false, 512, 0, 0⟩ := by
  decide +kernel

/-- Round 0 from GAP and round 3 from round 2; a queue of two, and none. -/
theorem witness_RoundOffersLowestKind :
    let q : List NoticeEntry := [⟨.user, 7, 0, false, false⟩, ⟨.fault, 2, 0, false, false⟩]
    (∀ s ∈ [withNotices .active .gap q, withNotices .leaving (.round 2) q, withNotices .withdrawn .gap q],
      s.timer.markSeen = true ∧ s.member.selfState ≠ .lockout ∧ s.timer.roundOpen = false ∧
        s.timer.origin = some 0 ∧ (0 + (16 + 144 * s.plan.n + 32 + 64 * (3#2).toNat : Nat) : Int) ≤ s.clock ∧
        (s.timer.position = .gap ∨ s.timer.position = .round 2 ∧ (2#2).toNat < (3#2).toNat) ∧
        (⟨.fault, 2, 0, false, false⟩ : NoticeEntry) ∈ s.line.notices ∧
        ∀ e' ∈ s.line.notices, NoticeKind.fault.code ≤ e'.kind.code ∧ (e'.kind = .fault → e' = ⟨.fault, 2, 0, false, false⟩)) ∧
    (withNotices .active .gap []).line.notices = [] := by decide

/-- Round ends of a completed entry, of one replaced in flight, at 30 and 31 rounds, in a sending state and in WITHDRAWN. -/
theorem witness_RoundEndAgesQueue :
    ∀ s ∈ [inRound .leaving 3 .completed [⟨.leave, 0, 1, true, false⟩, ⟨.user, 0, 31, false, false⟩],
      inRound .active 0 .completed [⟨.fault, 3, 2, true, true⟩, ⟨.test, 9, 30, false, false⟩],
      inRound .leaving 2 .lost [⟨.leave, 0, 31, true, false⟩], inRound .withdrawn 1 .idle [⟨.user, 0, 31, false, false⟩]],
    s.timer.markSeen = true ∧ s.member.selfState ≠ .lockout ∧ s.timer.roundOpen = true ∧
      (∃ j : RoundNumber, s.timer.position = .round j) ∧ s.timer.origin = some 0 ∧
      (0 + (16 + 144 * s.plan.n + 32 + 64 * ((3#2).toNat + 1) : Nat) : Int) ≤ s.clock ∧ s.noticesSound ∧ s.port.events.length ≤ 24 ∧
      ∀ e ∈ s.line.notices, e.replaced = true → e.inFlight = true := by
  unfold State.noticesSound; decide +kernel

/-- R109: LEAVE and USER expire together, USER posted first: NOTICE_EXPIRED of LEAVE with STATION_STATE, then of USER. -/
theorem test_round_end_expires : seen (.roundEnd 3)
    (inRound .leaving 3 .lost [⟨.user, 7, 31, false, false⟩, ⟨.test, 9, 4, true, false⟩, ⟨.leave, 0, 31, false, false⟩])
    (fun t => (t.line.notices, t.timer.position, t.port.events.tail)) =
    some ([⟨.test, 9, 5, false, false⟩], .idle,
      [evNoticeExpired 812 .leave, evStationState 812 .withdrawn, evNoticeExpired 812 .user]) := by decide +kernel

/-- A notice that fails each check alone, one that passes under the own number; stations N - 1 and N. -/
theorem witness_NoticeIsDiscardedOrLocksOut :
    let s := hearingInRound .active 0 .lost
    (inRound .active 0 .lost []).line.receiver ≠ .receiving ∧
    (s.timer.markSeen = true ∧ s.member.selfState ≠ .lockout ∧ s.timer.roundOpen = true ∧ s.line.receiver = .receiving ∧
      s.line.noticeSend = .lost) ∧ noticeCheckOk (0x9B#8 ++ (0 : BitVec 41)) = false ∧
    ((0x9B#8 ++ (0 : BitVec 41)) : BitVec 49).extractLsb' 41 8 = 0x9B#8 ∧ (0 : BitVec 49).extractLsb' 41 8 ≠ 0x9B#8 ∧
    (noticeFields (noticeFrame ⟨.user, 7, 3, 0, 0x2C⟩)).plan ≠ s.timer.plan ∧
    (noticeFields (noticeFrame ⟨.user, 7, 2, 0, 0x2D⟩)).epochLow ≠ s.timer.epoch.setWidth 8 ∧
    s.plan.n ≤ (noticeFields (noticeFrame ⟨.user, 8, 2, 0, 0x2C⟩)).station.toNat ∧
    let own := noticeFrame ⟨.user, 5, 2, 0, 0x2C⟩
    own.extractLsb' 41 8 = 0x9B#8 ∧ noticeCheckOk own = true ∧ (noticeFields own).plan = s.timer.plan ∧
      (noticeFields own).epochLow = s.timer.epoch.setWidth 8 ∧ (noticeFields own).station.toNat < s.plan.n ∧
      (noticeFields own).station = s.member.ownStation := by decide +kernel

/-- Each kind from station 7 of N = 8, with an entry that is ABSENT, PRESENT and unbound, and PRESENT and bound. -/
theorem witness_NoticeActsOnSender :
    (∀ kind ∈ [NoticeKind.leave, .fault, .test, .user],
      let f := noticeFrame ⟨kind, 7, 2, 0x39, 0x2C⟩
      f.extractLsb' 41 8 = 0x9B#8 ∧ noticeCheckOk f = true ∧ (noticeFields f).plan = 2 ∧ (noticeFields f).epochLow = (812#16).setWidth 8 ∧
        (noticeFields f).station = 7 ∧ (noticeFields f).kind = kind) ∧
    (∀ p ∈ [PeerEntry.cleared, { PeerEntry.cleared with state := .present },
        { PeerEntry.cleared with state := .present, bound := true }],
      let s := withPeer (hearingInRound .listen 0 .idle) 7 p
      s.timer.markSeen = true ∧ s.member.selfState ≠ .lockout ∧ s.timer.roundOpen = true ∧ s.line.receiver = .receiving ∧
        s.line.noticeSend = .idle ∧ s.timer.plan = 2 ∧ s.timer.epoch = 812 ∧ (7#4).toNat < s.plan.n ∧
        7 ≠ s.member.ownStation ∧ s.member.peer 7 = p) := by decide +kernel

/-- A port in each transaction state; an answer of one byte. -/
theorem witness_TransactionsOpenAndClose_states : State.reset.port.txn = .closed ∧
    ∀ x ∈ [Transaction.arguments .readEvents, .arguments .startTest, .arguments .postNotice, .response, .ignore],
      let p := { (inCommand .active).port with txn := x, response := [0x00] }
      p.txn = x ∧ p.response[0]? = some 0x00 ∧ p.response.length ≤ 1 := by decide

theorem witness_TransactionsOpenAndClose : State.reset.port.csnLow = false ∧ (inCommand .active).port.csnLow = true ∧
    (inCommand .active).store.pin = none ∧ (inCommand .active).port.txn = .command ∧
    0x00#8 ∉ [0x01#8, 0x02#8, 0x10#8, 0x11#8, 0x12#8, 0x20#8, 0x30#8, 0x40#8, 0x41#8, 0x4F#8, 0x50#8, 0x51#8, 0x60#8] ∧
    ({ inCommand .active with store := { storeAt4200 with pin := some ⟨1, .transaction⟩ } } : State).store.pin =
      some ⟨1, .transaction⟩ := by decide +kernel

/-- A store that has published once. -/
def published : State := { inCommand .active with store := SnapshotStore.initial.publish Page.cleared 0 }

/-- The same store with its FRONT page pinned. -/
def pinnedFront : State := { published with store := { published.store with pin := some ⟨0, .held⟩ } }

/-- A store with no FRONT page, with one, and with a pin. -/
theorem witness_ReadsAndPinAnswer :
    (inCommand .active).rolesSound ∧ (inCommand .active).port.txn = .command ∧ (inCommand .active).member.peers.length = 16 ∧
    (inCommand .active).store.pin = none ∧ (inCommand .active).store.front = none ∧
    published.rolesSound ∧ published.store.front = some 0 ∧ published.store.pin = none ∧
    pinnedFront.rolesSound ∧ pinnedFront.store.pin = some ⟨0, .held⟩ := by
  unfold State.rolesSound; decide +kernel

/-- A test and a result of each outcome, and queues that are full and empty, for the status block. -/
theorem witness_ReadsAndPinAnswer_block : (underTest ⟨.monitor, 9, 1⟩).tests.running = some ⟨.monitor, 9, 1⟩ ∧
    9 < 16 ∧ (inCommand .active).tests.running = none ∧ (inCommand .active).tests.result = none ∧
    (inCommand .active).port.events.length ≤ 32 ∧ (List.replicate 32 (evPlain .resync 0)).length ≤ 32 := by decide

/-- A READ_EVENTS with one record still to deliver. -/
def delivering : State :=
  { State.reset with port := { State.reset.port with txn := .response, csnLow := true, toDeliver := 1 } }

/-- Counts 0, 1, 32 and 33; a delivery of the last of the records to deliver. -/
theorem witness_EventsAreReadAndDelivered : (inCommand .active).port.txn = .command ∧ (32#8).toNat ≤ 32 ∧ 0 < (1#8).toNat ∧
    32 < (33#8).toNat ∧
    delivering.port.txn = .response ∧ 0 < delivering.port.toDeliver ∧
    delivering.port.events = [evStationState 0 .listen] := by decide

theorem witness_UnpinReleasesPage : (inCommand .active).port.txn = .command ∧ (inCommand .active).rolesSound ∧
    (inCommand .active).store.spare = [1, 2] := by
  unfold State.rolesSound; decide +kernel

/-- R105: each kind into a queue in which it is pending in flight, and USER beside it. -/
theorem test_posting_replaces : ∀ x ∈ [(NoticeKind.leave, 0), (.fault, 7), (.test, 0)],
    postNotice [⟨x.1, 1, 7, true, false⟩, ⟨.user, 5, 2, false, false⟩] x.1 9 =
      [⟨x.1, 9, x.2, true, true⟩, ⟨.user, 5, 2, false, false⟩] := by decide

/-- The cleared FAULT with one pending, and with none. -/
theorem witness_ClearFaultsKeepsLiveKinds_pending :
    let s := { inCommand .active with
      faults := ⟨0b110, true⟩
      line := { State.reset.line with notices := [⟨.user, 5, 2, false, false⟩, ⟨.fault, 6, 7, true, false⟩] } }
    s.port.txn = .command ∧ s.member.selfState = .active ∧ (∃ e ∈ s.line.notices, e.kind = .fault) ∧
      reportedPart (s.faults.held &&& s.sensor.evaluated.setWidth 10) ≠ reportedPart s.faults.held ∧
      (∀ e ∈ (inCommand .active).line.notices, e.kind ≠ .fault) := by decide +kernel

theorem witness_ClearFaultsKeepsLiveKinds : (inCommand .active).port.txn = .command ∧
    reportedPart ((⟨0b110, true⟩ : FaultRegister).clear 0b010).held ≠ reportedPart 0b110 ∧
    (inCommand .active).member.selfState = .active ∧ (inCommand .listen).member.selfState ≠ .active := by decide

/-- Room for the records of both, with the own station a source of its row. -/
theorem witness_StationLeavesAndRejoins_records :
    let s := { inCommand .active with
      engine := { State.reset.engine with rows := (List.replicate 8 Row.cleared).set 4 (rowWith [voter 5 0 0]) } }
    s.port.txn = .command ∧ s.member.selfState = .active ∧ s.port.events.length ≤ 20 ∧ boundOnce s.engine.rows ∧
      (unbindRows s.timer.epoch s.engine.rows 5).2 = [evRowState 812 4 .unbound false] ∧
      (inCommand .withdrawn).port.events.length ≤ 30 := by
  unfold boundOnce; decide +kernel

/-- WITHDRAW where it is taken and where not; REJOIN with the deadline ahead, at the clock, and with an INJECT to abort. -/
theorem witness_StationLeavesAndRejoins : (inCommand .joining).member.selfState = .joining ∧
    (inCommand .active).member.selfState = .active ∧ (inCommand .leaving).member.selfState = .leaving ∧
    (inCommand .withdrawn).member.selfState = .withdrawn ∧ (inCommand .withdrawn).port.txn = .command ∧
    (inCommand .withdrawn).timer.origin = some 0 ∧
    (inCommand .withdrawn).clock < 0 + (inCommand .withdrawn).plan.period + 8 * (inCommand .withdrawn).member.ownStation.toNat ∧
    0 + (inCommand .withdrawn).plan.period + 8 * (inCommand .withdrawn).member.ownStation.toNat ≤
      ({ inCommand .withdrawn with clock := 5040 } : State).clock ∧
    ({ inCommand .withdrawn with tests := (underTest ⟨.inject, 3, 9⟩).tests } : State).tests.running = some ⟨.inject, 3, 9⟩ ∧
    ({ inCommand .withdrawn with tests := (underTest ⟨.pulse, 3, 1⟩).tests } : State).tests.running = some ⟨.pulse, 3, 1⟩ := by
  decide +kernel

/-- R47, R98: at the deadline's instant REJOIN begins a drive that is no cold start; the drive of a mark is idle before it. -/
theorem test_rejoin_drives : seen .rejoin { inCommand .withdrawn with clock := 5040 }
    (fun t => (t.line.markDrive, t.timer.deadline)) = some (.driving false 5040, some 5040) ∧
    (inCommand .withdrawn).line.markDrive = .idle := by decide +kernel

/-- Codes 0, 1, 4 and 5; each self state of the refusals; a test in progress. -/
theorem witness_StartTestStartsOrRefuses : (inCommand .active).port.txn = .command ∧ 4 < (5#8).toNat ∧
    TestCode.inject.code = (1#8).toNat ∧ TestCode.monitor.code = (2#8).toNat ∧ TestCode.vote.code = (3#8).toNat ∧
    TestCode.pulse.code = (4#8).toNat ∧ (inCommand .active).tests.running = none ∧
    (underTest ⟨.vote, 0, 1⟩).tests.running ≠ none ∧ (inCommand .lockout).member.selfState = .lockout ∧
    (inCommand .joining).member.selfState = .joining ∧ (2#8).toNat ≤ 2 ∧ ¬(3#8).toNat ≤ 2 := by decide

theorem witness_ClearResultEmptiesRecord : (inCommand .active).port.txn = .command ∧ (inCommand .active).tests.running = none ∧
    ({ inCommand .active with tests := (underTest ⟨.vote, 0, 1⟩).tests } : State).tests.running ≠ none ∧
    ({ inCommand .active with tests := (underTest ⟨.vote, 0, 1⟩).tests } : State).port.txn = .command := by decide +kernel

theorem witness_PostNoticeAddsUserEntry : (inCommand .lockout).member.selfState = .lockout ∧
    (inCommand .lockout).port.txn = .command ∧ (inCommand .active).member.selfState ≠ .lockout ∧
    (inCommand .active).line.notices = [] ∧
    (⟨.user, 0, 0, false, false⟩ : NoticeEntry) ∈ (withNotices .active .idle [⟨.user, 0, 0, false, false⟩]).line.notices := by
  decide

/-! ### Invariants: a state that meets them and steps -/

/-- A station with a bound row and a vote in flight whose next command completes the vote. -/
def sound : State := { voting with
  emulator := lastEdge true 1022
  member := { voting.member with ownBound := true }
  pending := [.voteCompletion] }

theorem witness_StepKeepsAxisTable : sound.tableSound := by
  unfold State.tableSound boundOnce
  refine ⟨by decide +kernel, ?_, by decide +kernel, ?_⟩
  · unfold Row.sound Row.consistent stationsAscend runsInRange; decide +kernel
  · unfold Row.sound stationsAscend runsInRange; decide +kernel

theorem witness_StepKeepsAxisTable_listed : sound.peersSound ∧ sound.listedSound := by
  unfold State.peersSound State.listedSound; decide +kernel

/-- With the sound Axis Table of `witness_StepKeepsAxisTable`. -/
theorem witness_StepKeepsPageRoles : sound.rolesSound := by unfold State.rolesSound; decide +kernel

theorem witness_StepKeepsQueuesAndFaultLine : sound.portSound ∧ sound.noticesSound ∧ sound.faultLineSound := by
  unfold State.portSound State.noticesSound State.faultLineSound; decide +kernel

theorem witness_StepKeepsEmulator : sound.emulatorSound := by unfold State.emulatorSound; decide +kernel

theorem witness_StepKeepsDeadlineAndLockout : sound.deadlineSound ∧ sound.lockoutSound := by
  unfold State.deadlineSound State.lockoutSound; decide +kernel

theorem witness_StepKeepsMembership : sound.memberRunsSound ∧ sound.peersSound := by
  unfold State.memberRunsSound State.peersSound; decide +kernel

theorem witness_StepKeepsTestsAndSensor : sound.testsSound ∧ sound.sensorSound ∧ sound.bufferSound := by
  unfold State.testsSound State.sensorSound State.bufferSound; decide +kernel

/-- The command in front completes there: the queue is empty, the page is published, the emulator steps across count 0. -/
theorem test_sound_state_steps : (nextOf (step sound)).map (fun t => (t.pending, t.store.front, t.emulator.state)) =
    some ([], some 0, .follow) := by decide +kernel

end Sys2Proof.Tests
end

section
/-! SUPPORT. Unbind claims (R12): what one makes of each row and of the table, and the statement about it. -/

namespace Sys2Proof.Machine

/-! ### One row under an unbind claim -/

/-- What an unbind claim of station k makes of a row: a row that k is a source of loses its record, any other stays. -/
def Row.released (r : Row) (k : Station) : Row := if r.has k then r.unbind k else r

/-- The ROW_STATE record that a row numbered `axis` owes an unbind claim of station k: one where k was its last source. -/
def Row.releaseEvents (r : Row) (e : Epoch) (k : Station) (axis : Nat) : List EventRecord :=
  if r.has k = true ∧ (r.released k).sources = [] then [evRowState e axis .unbound r.stale] else []

theorem Row.has_iff (r : Row) (k : Station) : r.has k = true ↔ ∃ src ∈ r.sources, src.station = k := by
  simp [Row.has]

theorem Row.filter_station_of_not_has {r : Row} {k : Station} (h : r.has k = false) :
    r.sources.filter (fun src => src.station ≠ k) = r.sources := by
  simpa [Row.has, List.filter_eq_self] using h

@[simp] theorem Row.unbind_stale (r : Row) (k : Station) : (r.unbind k).stale = r.stale := rfl

@[simp] theorem Row.cleared_has (k : Station) : Row.cleared.has k = false := rfl

theorem Row.released_of_has {r : Row} {k : Station} (h : r.has k = true) : r.released k = r.unbind k := if_pos h

@[simp] theorem Row.released_of_not_has {r : Row} {k : Station} (h : r.has k = false) : r.released k = r := by
  simp [Row.released, h]

/-- The records that remain keep their order, standings, runs and samples: they are the old ones, filtered (R12). -/
theorem Row.released_sources (r : Row) (k : Station) :
    (r.released k).sources = r.sources.filter (fun src => src.station ≠ k) := by
  cases h : r.has k with
  | false => rw [Row.released_of_not_has h, Row.filter_station_of_not_has h]
  | true => rw [Row.released_of_has h]; simp [Row.unbind, bne, beq_eq_decide]

@[simp] theorem Row.released_value (r : Row) (k : Station) : (r.released k).value = r.value := by
  unfold Row.released; split <;> rfl

@[simp] theorem Row.released_holdAge (r : Row) (k : Station) : (r.released k).holdAge = r.holdAge := by
  unfold Row.released; split <;> rfl

@[simp] theorem Row.released_stale (r : Row) (k : Station) : (r.released k).stale = r.stale := by
  unfold Row.released; split <;> rfl

/-- A row that loses its last source becomes UNBOUND; any other row keeps its state. -/
theorem Row.released_state (r : Row) (k : Station) :
    (r.released k).state = if r.has k = true ∧ (r.released k).sources = [] then .unbound else r.state := by
  cases h : r.has k with
  | false => simp [h]
  | true => simp [Row.released_of_has h, Row.unbind]

theorem Row.releaseEvents_of_not_has {r : Row} {k : Station} (h : r.has k = false) (e : Epoch) (axis : Nat) :
    r.releaseEvents e k axis = [] := by
  simp [Row.releaseEvents, h]

/-! ### The table under an unbind claim -/

/-- An unbind claim at the first of the rows: what it makes of that row, and its event before those of the rest. -/
theorem unbindFrom_cons (e : Epoch) (k : Station) (axis : Nat) (r : Row) (rs : List Row) :
    unbindFrom e k axis (r :: rs) = (r.released k :: (unbindFrom e k (axis + 1) rs).1,
      r.releaseEvents e k axis ++ (unbindFrom e k (axis + 1) rs).2) := by
  cases h : r.has k with
  | false => simp [unbindFrom, h, Row.releaseEvents_of_not_has h]
  | true =>
    by_cases hlast : (r.unbind k).sources = []
    · simp [unbindFrom, Row.releaseEvents, Row.released_of_has, h, hlast]
    · simp [unbindFrom, Row.releaseEvents, Row.released_of_has, h, hlast]

/-- An unbind claim acts on each row alone. -/
theorem unbindRows_fst (e : Epoch) (rows : List Row) (k : Station) :
    (unbindRows e rows k).1 = rows.map (·.released k) := by
  suffices ∀ axis, (unbindFrom e k axis rows).1 = rows.map (·.released k) from this 0
  induction rows with
  | nil => exact fun _ => rfl
  | cons r rs ih => exact fun axis => by rw [unbindFrom_cons, ih, List.map_cons]

theorem rowOf_unbindRows (e : Epoch) (rows : List Row) (k : Station) (a : Axis) :
    rowOf (unbindRows e rows k).1 a = (rowOf rows a).released k := by
  have hcleared : Row.cleared.released k = Row.cleared := Row.released_of_not_has rfl
  rw [unbindRows_fst, rowOf, ← hcleared, List.getD_map, rowOf]

/-- An unbind claim changes nothing where the station is a source of no row. -/
theorem unbindFrom_of_not_has (e : Epoch) {k : Station} (axis : Nat) {rows : List Row}
    (h : ∀ r ∈ rows, r.has k = false) : unbindFrom e k axis rows = (rows, []) := by
  induction rows generalizing axis with
  | nil => rfl
  | cons r rs ih =>
    obtain ⟨hr, hrs⟩ := List.forall_mem_cons.1 h
    rw [unbindFrom_cons, ih _ hrs, Row.released_of_not_has hr, Row.releaseEvents_of_not_has hr, List.nil_append]

/-- Two rows of which no station is a source of both: a source of the one is no source of the other. -/
theorem Row.not_has_of_has {r q : Row} {k : Station}
    (h : ∀ a ∈ r.sources, ∀ b ∈ q.sources, a.station ≠ b.station) (hr : r.has k = true) : q.has k = false := by
  obtain ⟨a, ha, rfl⟩ := (r.has_iff k).1 hr
  refine Bool.eq_false_iff.2 fun hq => ?_
  obtain ⟨b, hb, hba⟩ := (q.has_iff _).1 hq
  exact h a ha b hb hba.symm

/-- Where no station is a source of two rows, the events of an unbind claim are those of the station's row. -/
theorem unbindFrom_snd_of_has (e : Epoch) {k : Station} (axis : Nat) {rows : List Row} (hone : boundOnce rows)
    {i : Nat} {r : Row} (hi : rows[i]? = some r) (hr : r.has k = true) :
    (unbindFrom e k axis rows).2 = r.releaseEvents e k (axis + i) := by
  induction rows generalizing axis i with
  | nil => simp at hi
  | cons q qs ih =>
    obtain ⟨hq, hqs⟩ := List.pairwise_cons.1 hone
    rw [unbindFrom_cons]
    cases i with
    | zero =>
      obtain rfl : q = r := by simpa using hi
      have hrest : ∀ q' ∈ qs, q'.has k = false := fun q' hmem => Row.not_has_of_has (hq q' hmem) hr
      simp [unbindFrom_of_not_has e _ hrest]
    | succ i =>
      have hi' : qs[i]? = some r := by simpa using hi
      have hhead : q.has k = false := by
        refine Row.not_has_of_has (fun b hb a ha => ?_) hr
        exact (hq r (List.mem_of_getElem? hi') a ha b hb).symm
      rw [ih (axis + 1) hqs hi', Row.releaseEvents_of_not_has hhead, List.nil_append, Nat.add_right_comm,
        Nat.add_assoc]

/-- A row with a source is a row of the table: beyond the table's end there are only cleared rows. -/
theorem getElem?_of_rowOf_has {rows : List Row} {a : Axis} {k : Station} (h : (rowOf rows a).has k = true) :
    rows[a.toNat]? = some (rowOf rows a) := by
  unfold rowOf at h ⊢
  rw [List.getD_eq_getElem?_getD] at h ⊢
  cases hrow : rows[a.toNat]? with
  | none => simp [hrow] at h
  | some r => rfl

theorem unbindRows_snd_of_has (e : Epoch) {rows : List Row} {k : Station} {a : Axis} (hone : boundOnce rows)
    (h : (rowOf rows a).has k = true) : (unbindRows e rows k).2 = (rowOf rows a).releaseEvents e k a.toNat := by
  rw [unbindRows, unbindFrom_snd_of_has e 0 hone (getElem?_of_rowOf_has h) h, Nat.zero_add]

/-- In a table of eight rows every row is the row of an axis (R1). -/
theorem exists_rowOf_of_mem {rows : List Row} (hlen : rows.length = 8) {r : Row} (hr : r ∈ rows) :
    ∃ a : Axis, rowOf rows a = r := by
  obtain ⟨i, hi, rfl⟩ := List.getElem_of_mem hr
  have hmod : i % 8 = i := Nat.mod_eq_of_lt (hlen ▸ hi)
  exact ⟨BitVec.ofNat 3 i, by simp [rowOf, hmod, hi]⟩

theorem unbindRows_of_not_has (e : Epoch) {rows : List Row} {k : Station} (hlen : rows.length = 8)
    (h : ∀ a : Axis, (rowOf rows a).has k = false) : unbindRows e rows k = (rows, []) := by
  refine unbindFrom_of_not_has e 0 fun r hr => ?_
  obtain ⟨a, rfl⟩ := exists_rowOf_of_mem hlen hr
  exact h a

/-- Settles O27: row by row through `Row.released`, and the events through the station's only row. -/
theorem unbindClaimRemovesRecord : Obligations.UnbindClaimRemovesRecord := by
  intro e rows k hlen hone out
  refine ⟨(unbindRows_length e rows k).trans hlen, fun a => ?_, unbindRows_of_not_has e hlen⟩
  have hrow : rowOf out.1 a = (rowOf rows a).released k := rowOf_unbindRows e rows k a
  have hev : (rowOf rows a).has k = true → out.2 = (rowOf rows a).releaseEvents e k a.toNat :=
    unbindRows_snd_of_has e hone
  rw [hrow]
  refine ⟨Row.released_sources .., Row.released_value .., Row.released_holdAge .., Row.released_stale .., ?_, ?_,
    Row.released_of_not_has⟩
  · intro hhas hlast
    exact ⟨by rw [Row.released_state, if_pos ⟨hhas, hlast⟩], by rw [hev hhas, Row.releaseEvents, if_pos ⟨hhas, hlast⟩]⟩
  · intro hhas hsome
    have hkeep : ¬ ((rowOf rows a).has k = true ∧ ((rowOf rows a).released k).sources = []) := fun h => hsome h.2
    exact ⟨by rw [Row.released_state, if_neg hkeep], by rw [hev hhas, Row.releaseEvents, if_neg hkeep]⟩

end Sys2Proof.Machine
end

section
/-! SUPPORT. Stage 3 on one and on two usable VOTING samples (R24, R29 to R31): which samples stage 2 finds, the
verdict they give, what that verdict does at a source, and the two statements about it. -/

namespace Sys2Proof.Machine

/-! ### Station sets of one and of two stations -/

@[simp] theorem stationSet_singleton (k : Station) : stationSet [k] = stationBit k := BitVec.zero_or

@[simp] theorem stationSet_pair (j k : Station) : stationSet [j, k] = stationBit j ||| stationBit k := by
  simp [stationSet]

/-! ### Stage 2: the usable VOTING samples -/

/-- What a source gives stage 2: its usable sample while it is VOTING. -/
def Source.voteSample (src : Source) : Option VoteSample :=
  if src.standing = .voting then src.usableSample.map fun x => ⟨src.station, x.angle, x.velocity⟩ else none

theorem Row.usableVoting_eq (r : Row) : r.usableVoting = r.sources.filterMap Source.voteSample := rfl

theorem Source.voteSample_eq_some_iff {src : Source} {y : VoteSample} :
    src.voteSample = some y ↔ src.standing = .voting ∧
      ∃ x, src.sample = some x ∧ x.usable = true ∧ y = ⟨src.station, x.angle, x.velocity⟩ := by
  simp [Source.voteSample, Source.usableSample, Option.filter_eq_some_iff, and_assoc, @eq_comm _ y]

theorem Row.mem_usableVoting {r : Row} {y : VoteSample} :
    y ∈ r.usableVoting ↔ ∃ src ∈ r.sources, src.standing = .voting ∧
      ∃ x, src.sample = some x ∧ x.usable = true ∧ y = ⟨src.station, x.angle, x.velocity⟩ := by
  simp only [Row.usableVoting_eq, List.mem_filterMap, Source.voteSample_eq_some_iff]

theorem Source.voteSample_station {src : Source} {y : VoteSample} (h : src.voteSample = some y) :
    y.station = src.station := by
  obtain ⟨-, _, -, -, rfl⟩ := Source.voteSample_eq_some_iff.1 h
  rfl

theorem stationsAscend.nodup {sources : List Source} (h : stationsAscend sources) :
    (sources.map Source.station).Nodup :=
  List.Pairwise.imp (fun hlt heq => absurd (congrArg BitVec.toNat heq) hlt.ne) h

/-- A station is the source of one record of a row (R2). -/
theorem stationsAscend.eq_of_station_eq {sources : List Source} (h : stationsAscend sources) {p q : Source}
    (hp : p ∈ sources) (hq : q ∈ sources) (hst : p.station = q.station) : p = q :=
  List.inj_on_of_nodup_map h.nodup hp hq hst

/-- Stage 2 takes the samples in the order of the sources, so in station order (R2). -/
theorem Row.usableVoting_ascend {r : Row} (h : stationsAscend r.sources) :
    r.usableVoting.Pairwise fun x y => x.station.toNat < y.station.toNat := by
  refine List.Pairwise.filterMap _ (fun p q hlt x hx y hy => ?_) (List.pairwise_map.1 h)
  rwa [Source.voteSample_station hx, Source.voteSample_station hy]

theorem Row.usableVoting_nodup {r : Row} (h : stationsAscend r.sources) : r.usableVoting.Nodup :=
  (Row.usableVoting_ascend h).imp fun hlt heq => absurd (congrArg (fun x => x.station.toNat) heq) hlt.ne

/-- Where no other VOTING source has a usable sample, stage 2 finds the sample of this one alone (u = 1). -/
theorem Row.usableVoting_eq_singleton {r : Row} {src : Source} {x : SourceSample} (hasc : stationsAscend r.sources)
    (hmem : src ∈ r.sources) (hvote : src.standing = .voting) (hx : src.sample = some x) (hus : x.usable = true)
    (hothers : ∀ q ∈ r.sources, q.standing = .voting → q.station ≠ src.station →
      ∀ y, q.sample = some y → y.usable = false) :
    r.usableVoting = [⟨src.station, x.angle, x.velocity⟩] := by
  refine List.perm_singleton.1
    ((List.perm_ext_iff_of_nodup (Row.usableVoting_nodup hasc) (List.nodup_singleton _)).2 fun y => ?_)
  rw [Row.mem_usableVoting, List.mem_singleton]
  constructor
  · rintro ⟨q, hq, hqvote, z, hz, hzus, rfl⟩
    have hst : q.station = src.station := by
      by_contra hne
      simp [hothers q hq hqvote hne z hz] at hzus
    obtain rfl := hasc.eq_of_station_eq hq hmem hst
    obtain rfl : z = x := Option.some.inj (hz.symm.trans hx)
    rfl
  · rintro rfl
    exact ⟨src, hmem, hvote, x, hx, hus, rfl⟩

/-! ### Stage 3: the verdict for u = 1 and u = 2 -/

theorem Row.verdict_of_one {r : Row} {a : VoteSample} (tol : Nat) (h : r.usableVoting = [a]) :
    r.verdict tol = ⟨.single, some (a.angle, a.velocity, stationBit a.station), [], none⟩ := by
  simp [Row.verdict, h]

theorem Row.verdict_of_two_near {r : Row} {a b : VoteSample} {tol : Nat} (h : r.usableVoting = [a, b])
    (hnear : circMag b.angle a.angle ≤ tol) : r.verdict tol = pairVerdict a b none := by
  simp [Row.verdict, h, anglesAgree, hnear]

theorem Row.verdict_of_two_apart {r : Row} {a b : VoteSample} {tol : Nat} (h : r.usableVoting = [a, b])
    (hfar : tol < circMag b.angle a.angle) : r.verdict tol = splitVerdict := by
  simp [Row.verdict, h, anglesAgree, hfar]

/-! ### What a verdict does at a source -/

theorem Source.score_of_agreed {q : Source} (plan : Plan) {v : Verdict} (hvote : q.standing = .voting)
    (hin : q.station ∈ v.agreed) : q.score plan v = ({ q with disagreeRun := 0 }, []) := by
  simp [Source.score, hvote, hin]

/-- A VOTING source that stage 3 neither finds in agreement nor charges stays as it is. -/
theorem Source.score_of_unjudged {q : Source} (plan : Plan) {v : Verdict} (hvote : q.standing = .voting)
    (hin : q.station ∉ v.agreed) (hout : v.outside ≠ some q.station) : q.score plan v = (q, []) := by
  simp [Source.score, hvote, hin, hout]

/-- Without a fresh value stage 5 judges no probation source (R35). -/
theorem Source.score_of_held {q : Source} (plan : Plan) {v : Verdict} (hvote : q.standing ≠ .voting)
    (hheld : v.fresh = none) : q.score plan v = (q, []) := by
  cases hs : q.standing with
  | voting => exact absurd hs hvote
  | candidate => simp [Source.score, hs, hheld]
  | diverged => simp [Source.score, hs, hheld]

/-- A split keeps every run and standing (R28, R30). -/
@[simp] theorem Source.score_splitVerdict (q : Source) (plan : Plan) : q.score plan splitVerdict = (q, []) := by
  by_cases hvote : q.standing = .voting
  · exact Source.score_of_unjudged plan hvote (by simp [splitVerdict]) (by simp [splitVerdict])
  · exact Source.score_of_held plan hvote rfl

/-! ### The statements -/

/-- Settles O31: stage 2 finds that sample alone, and a SINGLE verdict names no station to reset or to charge. -/
theorem oneSampleIsSingle : Obligations.OneSampleIsSingle := by
  intro plan r src x hmem hvote hx hus hasc hothers
  have hone := Row.usableVoting_eq_singleton hasc hmem hvote hx hus hothers
  rw [Row.verdict_of_one plan.tol hone]
  exact ⟨rfl, rfl, fun q _ hq => Source.score_of_unjudged plan hq (by simp) (by simp)⟩

/-- Settles O32: within TOL through the verdict of the pair, beyond it through the split. -/
theorem twoSamplesMeetOrSplit : Obligations.TwoSamplesMeetOrSplit := by
  intro plan r a b htwo _
  constructor
  · intro hnear
    rw [Row.verdict_of_two_near htwo hnear]
    refine ⟨rfl, by simp [pairVerdict, midAngle, midVelocity, angleAdd, circDiff], fun q _ hvote => ?_⟩
    split
    case isTrue hst => exact Source.score_of_agreed plan hvote (by simpa [pairVerdict] using hst)
    case isFalse hst =>
      exact Source.score_of_unjudged plan hvote (by simpa [pairVerdict] using hst) (by simp [pairVerdict])
  · intro hfar
    rw [Row.verdict_of_two_apart htwo hfar]
    exact ⟨rfl, rfl, fun q _ => Source.score_splitVerdict q plan⟩

end Sys2Proof.Machine
end

section
/-! SUPPORT. UNPIN and the choice of the next FILL page (R137, R140): a command in COMMAND is taken, a page in one role is
not in another, an unpinned page at the head of the spare order is the next FILL, and the statement about it. -/

namespace Sys2Proof.Machine

/-- A transaction in COMMAND takes every local command (R148). -/
theorem State.takes_of_command {s : State} (h : s.port.txn = .command) (c : LocalCommand) : s.takes c = true := by
  simp [State.takes, h]

theorem exec_unpin_of_command {s : State} (h : s.port.txn = .command) :
    exec .unpin s = .next ({ s with store.pin := none }.answer .ok []) :=
  congrArg Host.Outcome.next (if_pos (State.takes_of_command h .unpin))

/-- The FILL page has no place in the spare order (R135). -/
theorem State.rolesSound.fill_notMem_spare {s : State} (h : s.rolesSound) : s.store.fill ∉ s.store.spare := by
  obtain ⟨-, -, hperm, -⟩ := h
  have hnodup : (s.store.fill :: (s.store.front.toList ++ s.store.spare)).Nodup := hperm.nodup_iff.2 (by decide)
  exact fun hmem => (List.nodup_cons.1 hnodup).1 (List.mem_append_right _ hmem)

theorem SnapshotStore.pinned_of_pin_none {st : SnapshotStore} (h : st.pin = none) (p : PageNumber) :
    st.pinned p = false := by
  simp [SnapshotStore.pinned, h]

/-- The head of the spare order is the next FILL page unless it is FRONT or pinned (R137, step 4). -/
theorem SnapshotStore.nextFill_of_spare_cons {st : SnapshotStore} {front p : PageNumber} {rest : List PageNumber}
    (hspare : st.spare = p :: rest) (hfront : p ≠ front) (hpin : st.pinned p = false) : st.nextFill front = p := by
  simp [SnapshotStore.nextFill, hspare, hfront, hpin]

/-- The page that leaves FRONT enters the spare order last, so an unpinned head of it becomes FILL (R137, steps 3 and 4). -/
theorem SnapshotStore.publish_fill_of_spare_cons {st : SnapshotStore} {p : PageNumber} {rest : List PageNumber}
    (hspare : st.spare = p :: rest) (hfill : p ≠ st.fill) (hpin : st.pinned p = false) (pg : Page) (now : Instant) :
    (st.publish pg now).fill = p :=
  SnapshotStore.nextFill_of_spare_cons (by rw [hspare, List.cons_append]) hfill hpin

/-- Settles O45: no page is pinned after UNPIN, so the earliest SPARE page, which is not FILL, is the next FILL. -/
theorem unpinReleasesPage : Obligations.UnpinReleasesPage := by
  intro s hcommand
  refine ⟨_, exec_unpin_of_command hcommand, rfl, fun p rest page now hroles hspare => ?_⟩
  have hhead : p ∈ s.store.spare := hspare ▸ List.mem_cons_self
  have hfill : p ≠ s.store.fill := fun heq => hroles.fill_notMem_spare (heq ▸ hhead)
  exact SnapshotStore.publish_fill_of_spare_cons (st := { s.store with pin := none }) hspare hfill
    (SnapshotStore.pinned_of_pin_none rfl p) page now

end Sys2Proof.Machine
end

section
/-! SUPPORT. One step as a total function of the state: every command answers a next state, so an invariant is kept by every
step when every command and one bit time keep it. Which commands leave a block alone is said once for each block. -/

namespace Sys2Proof.Machine

/-! ### The state a command leaves -/

/-- The state that a command leaves. -/
def State.after (s : State) (c : Instr) : State :=
  match exec c s with
  | .next t => t
  | .fault _ | .refused _ => s

/-- No command ends in a fault or a refusal (log 1). -/
theorem exec_eq_next (c : Instr) (s : State) : exec c s = .next (s.after c) := by
  cases c <;> rfl

theorem step_of_cons {s : State} {c : Instr} {rest : List Instr} (h : s.pending = c :: rest) :
    step s = exec c { s with pending := rest } := by
  simp [step, h]

theorem step_of_nil {s : State} (h : s.pending = []) : step s = .next s.tick := by
  simp [step, h]

/-- What a step can be: one bit time on an empty queue, or the command at the front. -/
theorem step_cases {s t : State} (h : step s = .next t) :
    s.pending = [] ∧ t = s.tick ∨
      ∃ c rest, s.pending = c :: rest ∧ t = ({ s with pending := rest } : State).after c := by
  cases hp : s.pending with
  | nil => exact .inl ⟨rfl, by simpa [step_of_nil hp, eq_comm] using h⟩
  | cons c rest =>
    rw [step_of_cons hp, exec_eq_next] at h
    exact .inr ⟨c, rest, rfl, (Host.Outcome.next.inj h).symm⟩

/-- An invariant that does not speak of the queue is kept by every step once every command and one bit time keep it. -/
theorem step_keeps {P : State → Prop} (hqueue : ∀ s rest, P s → P { s with pending := rest })
    (htick : ∀ s, P s → P s.tick) (hafter : ∀ c s, P s → P (s.after c)) {s t : State} (hs : P s)
    (h : step s = .next t) : P t := by
  rcases step_cases h with ⟨-, rfl⟩ | ⟨c, rest, -, rfl⟩
  · exact htick s hs
  · exact hafter c _ (hqueue s rest hs)

/-- What a condition guards keeps a fact when the guarded state has it. -/
theorem keeps_ite {P : State → Prop} {b : Prop} [Decidable b] {x s : State} (hs : P s) (hx : b → P x) :
    P (if b then x else s) := by
  split
  · next hb => exact hx hb
  · exact hs

theorem keeps_iteB {P : State → Prop} {b : Prop} [Decidable b] {x y : State} (hx : b → P x) (hy : ¬b → P y) :
    P (if b then x else y) := by
  split
  · next hb => exact hx hb
  · next hb => exact hy hb

end Sys2Proof.Machine
end

section
/-! SUPPORT. What the larger operations of the machine leave alone: a mark, a lockout, a frame, a notice, a close, a vote's
completion and RESTART. -/

namespace Sys2Proof.Machine

/-- What one step of a fold over stations keeps, the fold keeps. -/
theorem foldl_keeps {α β : Type} {f : α → β → α} {P : α → Prop} (hf : ∀ a b, P a → P (f a b)) {a : α} (ha : P a)
    (l : List β) : P (l.foldl f a) := by
  induction l generalizing a with
  | nil => exact ha
  | cons b bs ih => exact ih (hf a b ha)

/-- A block that one step of a fold leaves alone, the fold leaves alone. -/
theorem foldl_frame {α β γ : Type} {f : α → β → α} {g : α → γ} (hf : ∀ a b, g (f a b) = g a) (a : α) (l : List β) :
    g (l.foldl f a) = g a :=
  foldl_keeps (P := fun x => g x = g a) (fun x b hx => (hf x b).trans hx) rfl l

@[simp] theorem State.raiseDuplicateId_kept (s : State) : s.raiseDuplicateId.clock = s.clock ∧
    s.raiseDuplicateId.store = s.store ∧ s.raiseDuplicateId.pending = s.pending := by
  unfold State.raiseDuplicateId
  split <;> simp

@[simp] theorem State.takeFrame_kept (s : State) (k : Station) (frame : BitVec 102) :
    (s.takeFrame k frame).clock = s.clock ∧ (s.takeFrame k frame).store = s.store ∧
      (s.takeFrame k frame).pending = s.pending := by
  unfold State.takeFrame
  split <;> simp

@[simp] theorem State.takeLeave_kept (s : State) (k : Station) :
    (s.takeLeave k).clock = s.clock ∧ (s.takeLeave k).line = s.line ∧ (s.takeLeave k).timer = s.timer ∧
      (s.takeLeave k).sensor = s.sensor ∧ (s.takeLeave k).faults = s.faults ∧ (s.takeLeave k).store = s.store ∧
      (s.takeLeave k).emulator = s.emulator ∧ (s.takeLeave k).tests = s.tests ∧
      (s.takeLeave k).freeCount = s.freeCount ∧ (s.takeLeave k).pending = s.pending := by
  simp only [State.takeLeave]
  split
  · simp
  · split <;> simp

@[simp] theorem State.takeNotice_kept (s : State) (f : NoticeFields) :
    (s.takeNotice f).clock = s.clock ∧ (s.takeNotice f).line = s.line ∧ (s.takeNotice f).timer = s.timer ∧
      (s.takeNotice f).sensor = s.sensor ∧ (s.takeNotice f).faults = s.faults ∧ (s.takeNotice f).store = s.store ∧
      (s.takeNotice f).emulator = s.emulator ∧ (s.takeNotice f).tests = s.tests ∧
      (s.takeNotice f).freeCount = s.freeCount ∧ (s.takeNotice f).pending = s.pending := by
  simp only [State.takeNotice]
  split <;> simp

@[simp] theorem State.receiveNotice_kept (s : State) (frame : BitVec 49) :
    (s.receiveNotice frame).clock = s.clock ∧ (s.receiveNotice frame).store = s.store ∧
      (s.receiveNotice frame).pending = s.pending := by
  simp only [State.receiveNotice]
  split
  · split <;> simp
  · simp

@[simp] theorem State.markLineAndTimer_kept (s : State) (drove : Bool) :
    (s.markLineAndTimer drove).clock = s.clock ∧ (s.markLineAndTimer drove).engine = s.engine ∧
      (s.markLineAndTimer drove).sensor = s.sensor ∧ (s.markLineAndTimer drove).faults = s.faults ∧
      (s.markLineAndTimer drove).store = s.store ∧ (s.markLineAndTimer drove).port = s.port ∧
      (s.markLineAndTimer drove).emulator = s.emulator ∧ (s.markLineAndTimer drove).tests = s.tests ∧
      (s.markLineAndTimer drove).freeCount = s.freeCount ∧ (s.markLineAndTimer drove).pending = s.pending := by
  simp only [State.markLineAndTimer]
  repeat' split
  all_goals simp

@[simp] theorem State.markTestAndFaults_kept (s : State) (m : MarkInputs) :
    (s.markTestAndFaults m).clock = s.clock ∧ (s.markTestAndFaults m).timer = s.timer ∧
      (s.markTestAndFaults m).member = s.member ∧ (s.markTestAndFaults m).store = s.store ∧
      (s.markTestAndFaults m).port = s.port ∧ (s.markTestAndFaults m).pending = s.pending := by
  simp only [State.markTestAndFaults]
  repeat' split
  all_goals simp

@[simp] theorem State.mark_kept (s : State) (m : MarkInputs) :
    (s.mark m).clock = s.clock ∧ (s.mark m).store = s.store ∧ (s.mark m).pending = s.pending := by
  simp only [State.mark]
  split <;> simp

@[simp] theorem State.roundBegin_kept (s : State) (j : RoundNumber) :
    (s.roundBegin j).clock = s.clock ∧ (s.roundBegin j).member = s.member ∧ (s.roundBegin j).engine = s.engine ∧
      (s.roundBegin j).sensor = s.sensor ∧ (s.roundBegin j).faults = s.faults ∧ (s.roundBegin j).store = s.store ∧
      (s.roundBegin j).port = s.port ∧ (s.roundBegin j).emulator = s.emulator ∧ (s.roundBegin j).tests = s.tests ∧
      (s.roundBegin j).freeCount = s.freeCount ∧ (s.roundBegin j).pending = s.pending := by
  simp only [State.roundBegin]
  split
  · split <;> simp
  · simp

@[simp] theorem State.roundEnd_kept (s : State) (j : RoundNumber) :
    (s.roundEnd j).clock = s.clock ∧ (s.roundEnd j).engine = s.engine ∧
      (s.roundEnd j).sensor = s.sensor ∧ (s.roundEnd j).faults = s.faults ∧ (s.roundEnd j).store = s.store ∧
      (s.roundEnd j).emulator = s.emulator ∧ (s.roundEnd j).tests = s.tests ∧
      (s.roundEnd j).freeCount = s.freeCount ∧ (s.roundEnd j).pending = s.pending := by
  simp only [State.roundEnd]
  split <;> simp

@[simp] theorem State.slotBegin_kept (s : State) (k : Station) :
    (s.slotBegin k).clock = s.clock ∧ (s.slotBegin k).member = s.member ∧ (s.slotBegin k).engine = s.engine ∧
      (s.slotBegin k).faults = s.faults ∧ (s.slotBegin k).store = s.store ∧ (s.slotBegin k).port = s.port ∧
      (s.slotBegin k).emulator = s.emulator ∧ (s.slotBegin k).tests = s.tests ∧
      (s.slotBegin k).freeCount = s.freeCount ∧ (s.slotBegin k).pending = s.pending := by
  simp only [State.slotBegin]
  repeat' split
  all_goals simp

/-! ### A close -/

@[simp] theorem State.adopt_kept (s : State) (e : Option Epoch) :
    (s.adopt e).clock = s.clock ∧ (s.adopt e).faults = s.faults ∧ (s.adopt e).store = s.store ∧
      (s.adopt e).freeCount = s.freeCount ∧ (s.adopt e).pending = s.pending := by
  cases e with
  | none => simp [State.adopt]
  | some e => simp only [State.adopt]; split <;> simp

@[simp] theorem State.updatePeers_kept (s : State) :
    s.updatePeers.clock = s.clock ∧ s.updatePeers.line = s.line ∧ s.updatePeers.timer = s.timer ∧
      s.updatePeers.sensor = s.sensor ∧ s.updatePeers.faults = s.faults ∧ s.updatePeers.store = s.store ∧
      s.updatePeers.emulator = s.emulator ∧ s.updatePeers.tests = s.tests ∧
      s.updatePeers.freeCount = s.freeCount ∧ s.updatePeers.pending = s.pending := by
  unfold State.updatePeers
  refine ⟨?_, ?_, ?_, ?_, ?_, ?_, ?_, ?_, ?_, ?_⟩ <;> exact foldl_frame (by simp) s _

@[simp] theorem State.claims_kept (s : State) :
    s.claims.clock = s.clock ∧ s.claims.line = s.line ∧ s.claims.timer = s.timer ∧
      s.claims.sensor = s.sensor ∧ s.claims.faults = s.faults ∧ s.claims.store = s.store ∧
      s.claims.emulator = s.emulator ∧ s.claims.tests = s.tests ∧
      s.claims.freeCount = s.freeCount ∧ s.claims.pending = s.pending := by
  unfold State.claims
  refine ⟨?_, ?_, ?_, ?_, ?_, ?_, ?_, ?_, ?_, ?_⟩ <;> exact foldl_frame (by simp) s _

@[simp] theorem State.testListen_kept (s : State) (adopted : Bool) :
    (s.testListen adopted).clock = s.clock ∧ (s.testListen adopted).store = s.store ∧
      (s.testListen adopted).freeCount = s.freeCount ∧ (s.testListen adopted).pending = s.pending := by
  simp only [State.testListen]
  repeat' split
  all_goals simp

@[simp] theorem State.testJoining_kept (s : State) (adopted : Bool) :
    (s.testJoining adopted).clock = s.clock ∧ (s.testJoining adopted).line = s.line ∧
      (s.testJoining adopted).sensor = s.sensor ∧ (s.testJoining adopted).faults = s.faults ∧
      (s.testJoining adopted).store = s.store ∧ (s.testJoining adopted).emulator = s.emulator ∧
      (s.testJoining adopted).tests = s.tests ∧
      (s.testJoining adopted).freeCount = s.freeCount ∧ (s.testJoining adopted).pending = s.pending := by
  simp only [State.testJoining]
  repeat' split
  all_goals simp

@[simp] theorem State.testActive_kept (s : State) :
    s.testActive.clock = s.clock ∧ s.testActive.line = s.line ∧ s.testActive.sensor = s.sensor ∧
      s.testActive.store = s.store ∧ s.testActive.emulator = s.emulator ∧ s.testActive.tests = s.tests ∧
      s.testActive.freeCount = s.freeCount ∧ s.testActive.pending = s.pending := by
  simp only [State.testActive]
  repeat' split
  all_goals simp

@[simp] theorem State.testSelf_kept (s : State) (before : SelfState) (sent adopted : Bool) :
    (s.testSelf before sent adopted).clock = s.clock ∧ (s.testSelf before sent adopted).store = s.store ∧
      (s.testSelf before sent adopted).freeCount = s.freeCount ∧
      (s.testSelf before sent adopted).pending = s.pending := by
  simp only [State.testSelf]
  repeat' split
  all_goals simp

@[simp] theorem State.admission_kept (s : State) (sent : Bool) :
    (s.admission sent).clock = s.clock ∧ (s.admission sent).store = s.store ∧
      (s.admission sent).freeCount = s.freeCount ∧ (s.admission sent).pending = s.pending := by
  simp only [State.admission]
  split <;> simp

/-! ### Votes, RESTART and the local port -/

@[simp] theorem State.completeVote_kept (s : State) (v : VoteInFlight) :
    (s.completeVote v).clock = s.clock ∧ (s.completeVote v).timer = s.timer ∧
      (s.completeVote v).member = s.member ∧ (s.completeVote v).freeCount = s.freeCount ∧
      (s.completeVote v).pending = s.pending := by
  simp only [State.completeVote]
  repeat' split
  all_goals simp

@[simp] theorem State.restart_kept (s : State) :
    s.restart.clock = s.clock ∧ s.restart.line = s.line.restart ∧ s.restart.timer = s.timer.restart ∧
      s.restart.engine = ⟨List.replicate 8 Row.cleared, none⟩ ∧ s.restart.store = SnapshotStore.initial ∧
      s.restart.emulator = s.emulator.restart ∧ s.restart.pending = s.pending := by
  simp [State.restart]

@[simp] theorem State.pinFront_kept (s : State) :
    s.pinFront.clock = s.clock ∧ s.pinFront.line = s.line ∧ s.pinFront.timer = s.timer ∧
      s.pinFront.member = s.member ∧ s.pinFront.engine = s.engine ∧ s.pinFront.sensor = s.sensor ∧
      s.pinFront.faults = s.faults ∧ s.pinFront.emulator = s.emulator ∧ s.pinFront.tests = s.tests ∧
      s.pinFront.freeCount = s.freeCount ∧ s.pinFront.pending = s.pending := by
  simp only [State.pinFront]
  split <;> simp

@[simp] theorem State.readPage_kept (s : State) :
    s.readPage.clock = s.clock ∧ s.readPage.line = s.line ∧ s.readPage.timer = s.timer ∧
      s.readPage.member = s.member ∧ s.readPage.engine = s.engine ∧ s.readPage.sensor = s.sensor ∧
      s.readPage.faults = s.faults ∧ s.readPage.emulator = s.emulator ∧ s.readPage.tests = s.tests ∧
      s.readPage.freeCount = s.freeCount ∧ s.readPage.pending = s.pending := by
  simp only [State.readPage]
  split <;> simp

@[simp] theorem State.readEvents_kept (s : State) (n : Nat) :
    (s.readEvents n).clock = s.clock ∧ (s.readEvents n).line = s.line ∧ (s.readEvents n).timer = s.timer ∧
      (s.readEvents n).member = s.member ∧ (s.readEvents n).engine = s.engine ∧
      (s.readEvents n).sensor = s.sensor ∧ (s.readEvents n).faults = s.faults ∧ (s.readEvents n).store = s.store ∧
      (s.readEvents n).emulator = s.emulator ∧ (s.readEvents n).tests = s.tests ∧
      (s.readEvents n).freeCount = s.freeCount ∧ (s.readEvents n).pending = s.pending := by
  simp [State.readEvents]

@[simp] theorem State.enterLeaving_kept (s : State) :
    s.enterLeaving.clock = s.clock ∧ s.enterLeaving.timer = s.timer ∧ s.enterLeaving.sensor = s.sensor ∧
      s.enterLeaving.faults = s.faults ∧ s.enterLeaving.store = s.store ∧ s.enterLeaving.emulator = s.emulator ∧
      s.enterLeaving.tests = s.tests ∧ s.enterLeaving.pending = s.pending := by
  simp [State.enterLeaving]

@[simp] theorem State.takeStartTest_kept (s : State) (code : Byte) :
    (s.takeStartTest code).clock = s.clock ∧ (s.takeStartTest code).timer = s.timer ∧
      (s.takeStartTest code).member = s.member ∧ (s.takeStartTest code).engine = s.engine ∧
      (s.takeStartTest code).faults = s.faults ∧ (s.takeStartTest code).store = s.store ∧
      (s.takeStartTest code).freeCount = s.freeCount ∧ (s.takeStartTest code).pending = s.pending := by
  simp only [State.takeStartTest]
  repeat' split
  all_goals simp

/-! ### The queue of waiting commands (log 1, log 27) -/

/-- No command touches the waiting commands. -/
theorem State.after_pending (s : State) (c : Instr) : (s.after c).pending = s.pending := by
  cases c <;> simp only [State.after, exec, execReset, execMarkRecognised, execMarkDeadline, execListenTimeout,
    execMarkDriveRelease, execSlotBegin, execOwnFrameComplete, execCollision, execCollisionJudgement,
    execFrameReceived, execSlotEnd, execClose, execVoteCompletion, execEpsPulseEnd, execEmissionEdge, execRoundBegin,
    execNoticeCollision, execNoticeFrameComplete, execRoundEnd, execNoticeReceived, execCsnFall, execCsnRise,
    execBadCommand, execReadStatus, execReadEvents, execEventRecordDelivered, execPin, execUnpin, execReadPage,
    execReadPeers, execClearFaults, execWithdraw, execRejoin, execRestart, execStartTest, execClearResult,
    execPostNotice, execSyncFound, execCodingBroken, execCommandByte]
  all_goals repeat' split
  all_goals simp [State.atReset]

end Sys2Proof.Machine
end

section
/-! SUPPORT. What the straps fix, the plan, the own number and the own axis, changes by RESET alone (R43); and the commands that
touch the Axis Table, the self state or the Snapshot Store at all. -/

namespace Sys2Proof.Machine

/-! ### The strapped values (R43) -/

/-- The plan, the own station number and the own axis, as the straps gave them. -/
def State.strapped (s : State) : PlanCode × Station × Axis := (s.timer.plan, s.member.ownStation, s.member.ownAxis)

theorem State.strapped_eq_of_blocks {s t : State} (ht : t.timer = s.timer) (hm : t.member = s.member) :
    t.strapped = s.strapped := by
  simp [State.strapped, ht, hm]

@[simp] theorem State.armDeadline_strapped (s : State) : s.armDeadline.strapped = s.strapped := by
  unfold State.armDeadline State.strapped
  split
  · rfl
  · simp only; split <;> rfl

@[simp] theorem State.emit_strapped (s : State) (es : List EventRecord) : (s.emit es).strapped = s.strapped := rfl

@[simp] theorem State.emitTogether_strapped (s : State) (bs : List (List EventRecord)) :
    (s.emitTogether bs).strapped = s.strapped := rfl

@[simp] theorem State.abortTest_strapped (s : State) (why : AbortReason) : (s.abortTest why).strapped = s.strapped :=
  State.strapped_eq_of_blocks (by simp) (by simp)

@[simp] theorem State.enterJoining_strapped (s : State) : s.enterJoining.strapped = s.strapped := by
  simp only [State.enterJoining, State.armDeadline_strapped, State.abortTest_strapped]
  rfl

@[simp] theorem State.enterLockout_strapped (s : State) : s.enterLockout.strapped = s.strapped := by
  simp only [State.enterLockout, State.abortTest_strapped]
  split <;> rfl

@[simp] theorem State.raiseDuplicateId_strapped (s : State) : s.raiseDuplicateId.strapped = s.strapped := by
  unfold State.raiseDuplicateId
  split
  · rfl
  · simp only [State.emitTogether_strapped, State.enterLockout_strapped]; rfl

@[simp] theorem State.unbindPeer_strapped (s : State) (k : Station) : (s.unbindPeer k).strapped = s.strapped := rfl

@[simp] theorem State.takeLeave_strapped (s : State) (k : Station) : (s.takeLeave k).strapped = s.strapped := by
  simp only [State.takeLeave]
  repeat' split
  all_goals rfl

@[simp] theorem State.takeNotice_strapped (s : State) (f : NoticeFields) : (s.takeNotice f).strapped = s.strapped := by
  simp only [State.takeNotice]
  split
  · exact State.takeLeave_strapped ..
  all_goals rfl

/-- The Line Controller and the Epoch Timer at a mark, before a withdrawal it completes and before the deadline is armed. -/
def State.markTimed (s : State) (drove : Bool) : State :=
  { s with
    line := s.line.atMark (s.timer.position.noClose || s.member.selfState == SelfState.lockout)
    timer := { s.timer with
      epoch := s.markEpoch
      markSeen := true
      origin := some (s.clock - recognitionTime)
      position := if s.member.selfState = SelfState.lockout then .none else .mark
      roundOpen := false
      listenTimer := 0
      epochLength := s.markLength
      selfMarked := (drove || s.line.markDrive.isDriving) && s.member.selfState != SelfState.lockout } }

/-- The withdrawal completed where a LEAVE has left the queue (R97). -/
def State.withdrawnIf (s : State) (leaves : Bool) : State := if leaves then s.enterWithdrawn else s

/-- The deadline armed in the self states that arm it (R48). -/
def State.armedIfSends (s : State) : State := if s.member.selfState.sends then s.armDeadline else s

theorem State.markLineAndTimer_eq (s : State) (drove : Bool) :
    s.markLineAndTimer drove = ((s.markTimed drove).withdrawnIf s.markTakesLeave).armedIfSends := rfl

/-- A mark after the line, the timer and steps 1 to 7 at the Sensor Interface. -/
def State.markSensed (s : State) (m : MarkInputs) : State :=
  (({ s with freeCount := s.withdrawnAtMark.2 } : State).markLineAndTimer m.drove).markSensor m

/-- A mark after the test step and step 8. -/
def State.markTested (s : State) (m : MarkInputs) : State := (s.markSensed m).markTestAndFaults m

/-- A mark after the entry to JOINING of a cold start. -/
def State.markJoined (s : State) (m : MarkInputs) : State :=
  if s.coldStarts then (s.markTested m).enterJoining else s.markTested m

/-- The records of a mark, block by block. -/
def State.markBlocks (s : State) (m : MarkInputs) : List (List EventRecord) :=
  [s.cutEvents, s.withdrawnAtMark.1, (s.markSensed m).sensorFaultEvents, (s.markSensed m).testEventsAt m,
    if s.coldStarts then (s.markTested m).joiningEvents else []]

/-- A mark is its effects at every block, and then the records of the blocks together (R46, R145). -/
theorem State.mark_eq (s : State) (m : MarkInputs) : s.mark m = (s.markJoined m).emitTogether (s.markBlocks m) := rfl

@[simp] theorem State.markLineAndTimer_strapped (s : State) (drove : Bool) :
    (s.markLineAndTimer drove).strapped = s.strapped := by
  have hleave (x : State) (leaves : Bool) : (x.withdrawnIf leaves).strapped = x.strapped := by
    cases leaves <;> rfl
  have harm (x : State) : x.armedIfSends.strapped = x.strapped := by
    unfold State.armedIfSends
    split <;> simp
  rw [State.markLineAndTimer_eq, harm, hleave]
  rfl

@[simp] theorem State.mark_strapped (s : State) (m : MarkInputs) : (s.mark m).strapped = s.strapped := by
  have hrest (x : State) : (x.markTestAndFaults m).strapped = x.strapped :=
    State.strapped_eq_of_blocks (by simp) (by simp)
  have hsensor (x : State) : (x.markSensor m).strapped = x.strapped := rfl
  simp only [State.mark, State.emitTogether_strapped]
  split <;> simp only [State.enterJoining_strapped, hrest, hsensor, State.markLineAndTimer_strapped] <;> rfl

@[simp] theorem State.hearPeer_strapped (s : State) (k : Station) (f : FrameRecord) :
    (s.hearPeer k f).strapped = s.strapped := by
  simp only [State.hearPeer]
  repeat' split
  all_goals rfl

@[simp] theorem State.missPeer_strapped (s : State) (k : Station) : (s.missPeer k).strapped = s.strapped := by
  simp only [State.missPeer]
  repeat' split
  all_goals rfl

@[simp] theorem State.updatePeer_strapped (s : State) (k : Station) : (s.updatePeer k).strapped = s.strapped := by
  simp only [State.updatePeer]
  repeat' split
  all_goals simp

@[simp] theorem State.updatePeers_strapped (s : State) : s.updatePeers.strapped = s.strapped :=
  foldl_frame State.updatePeer_strapped s _

@[simp] theorem State.claim_strapped (s : State) (k : Station) : (s.claim k).strapped = s.strapped := by
  have hpeer : (s.claimPeer k).strapped = s.strapped := rfl
  have hown : s.claimOwn.strapped = s.strapped := by
    simp only [State.claimOwn, State.strapped]
    split <;> rfl
  simp only [State.claim]
  repeat' split
  all_goals simp [hpeer, hown]

@[simp] theorem State.claims_strapped (s : State) : s.claims.strapped = s.strapped :=
  foldl_frame State.claim_strapped s _

@[simp] theorem State.adopt_strapped (s : State) (e : Option Epoch) : (s.adopt e).strapped = s.strapped := by
  cases e with
  | none => rfl
  | some e => simp only [State.adopt]; split <;> simp only [State.emit_strapped, State.enterJoining_strapped] <;> rfl

@[simp] theorem State.testSelf_strapped (s : State) (before : SelfState) (sent adopted : Bool) :
    (s.testSelf before sent adopted).strapped = s.strapped := by
  simp only [State.testSelf, State.testListen, State.testJoining, State.testActive]
  repeat' split
  all_goals try simp only [State.emit_strapped, State.enterLockout_strapped, State.enterJoining_strapped]
  all_goals rfl

@[simp] theorem State.admission_strapped (s : State) (sent : Bool) : (s.admission sent).strapped = s.strapped := by
  have hdeliver (x : State) (l : List AdmittedSample) : (x.deliver l).strapped = x.strapped := rfl
  simp only [State.admission]
  split <;> simp only [hdeliver, State.claims_strapped, State.testSelf_strapped, State.updatePeers_strapped,
    State.adopt_strapped]

/-! ### What each command leaves alone -/

/-- The blocks of the state (00 Table 2-1). -/
inductive Block where
  | line | timer | member | engine | sensor | faults | store | port | emulator | tests
  deriving DecidableEq

/-- The blocks that a command may touch. -/
def touches : Instr → List Block
  | .reset _ _ | .restart => [.line, .timer, .member, .engine, .sensor, .faults, .store, .port, .emulator, .tests]
  | .close | .collisionJudgement | .frameReceived _ | .noticeReceived _ =>
    [.line, .timer, .member, .engine, .sensor, .faults, .port, .emulator, .tests]
  | .markRecognised _ => [.line, .timer, .member, .sensor, .faults, .port, .emulator, .tests]
  | .voteCompletion => [.line, .engine, .faults, .store, .port, .emulator, .tests]
  | .markDeadline | .listenTimeout | .markDriveRelease | .ownFrameComplete | .collision | .slotEnd _
  | .noticeCollision | .noticeFrameComplete | .syncFound | .codingBroken => [.line]
  | .slotBegin _ => [.line, .timer, .sensor]
  | .roundBegin _ => [.line, .timer]
  | .roundEnd _ => [.line, .timer, .member, .port]
  | .epsPulseEnd => [.store]
  | .emissionEdge => [.emulator]
  | .csnRise | .pin | .unpin | .readPage => [.store, .port]
  | .csnFall | .badCommand _ | .readStatus | .readEvents _ | .eventRecordDelivered | .readPeers
  | .commandByte _ => [.port]
  | .clearFaults => [.line, .faults, .port]
  | .withdraw => [.line, .member, .engine, .port]
  | .rejoin => [.line, .timer, .member, .sensor, .port, .tests]
  | .startTest _ => [.line, .sensor, .port, .emulator, .tests]
  | .clearResult => [.port, .tests]
  | .postNotice _ => [.line, .port]

/-- STATE reaches INJECT and MONITOR alone, whose ends leave the vote and the emulator alone (R170). -/
@[simp] theorem State.abortTest_state_kept (s : State) :
    (s.abortTest .state).engine = s.engine ∧ (s.abortTest .state).emulator = s.emulator := by
  have hend (c : TestCode) (h : c.marksSample = true) (x : State) :
      (x.endEffects c).engine = x.engine ∧ (x.endEffects c).emulator = x.emulator := by
    cases c with
    | inject | monitor => exact ⟨rfl, rfl⟩
    | vote | pulse => cases h
  unfold State.abortTest
  split
  · split
    · next r _ h => exact hend r.code h _
    · exact ⟨rfl, rfl⟩
  · exact ⟨rfl, rfl⟩

@[simp] theorem State.enterJoining_kept (s : State) :
    s.enterJoining.engine = s.engine ∧ s.enterJoining.emulator = s.emulator := by
  simp [State.enterJoining]

/-- A mark ends no VOTE test, so it leaves the vote in flight alone (R22). -/
@[simp] theorem State.testAtMark_engine (s : State) (m : MarkInputs) : (s.testAtMark m).engine = s.engine := by
  unfold State.testAtMark
  split
  · rfl
  · next r hr =>
    split
    · rfl
    · next hv =>
      have hend (o : TestOutcome) : (s.endTest r.code o).engine = s.engine := by
        have hfinish : (s.finishTest r.code o).engine = s.engine := by
          unfold State.finishTest
          cases hc : r.code with
          | vote => exact absurd hc hv
          | inject | monitor | pulse => rfl
        cases o <;> simp [State.endTest, hfinish]
      cases hd : testDecision r.code (r.step + 1) m s.emulator.counter s.emulator.perTurn <;>
        simp [State.testOutcomeAt, hr, hd, hend]

@[simp] theorem State.mark_engine (s : State) (m : MarkInputs) : (s.mark m).engine = s.engine := by
  have hrest (x : State) : (x.markTestAndFaults m).engine = x.engine := by
    simp only [State.markTestAndFaults]
    repeat' split
    all_goals simp
  simp only [State.mark]
  split <;> simp [hrest]

@[simp] theorem State.completeVote_sensor (s : State) (v : VoteInFlight) :
    (s.completeVote v).sensor = s.sensor := by
  have hend (x : State) : x.endVoteTest.sensor = x.sensor := by
    simp only [State.endVoteTest, State.emit_sensor]
    cases voteTestOutcome x.plan <;> simp [State.endTest, State.finishTest, State.endEffects]
  simp only [State.completeVote]
  repeat' split
  all_goals simp [hend]

/-- Every block outside a list of blocks is the same in two states. -/
structure KeepsOthers (touched : List Block) (s t : State) : Prop where
  line : .line ∉ touched → t.line = s.line
  timer : .timer ∉ touched → t.timer = s.timer
  member : .member ∉ touched → t.member = s.member
  engine : .engine ∉ touched → t.engine = s.engine
  sensor : .sensor ∉ touched → t.sensor = s.sensor
  faults : .faults ∉ touched → t.faults = s.faults
  store : .store ∉ touched → t.store = s.store
  port : .port ∉ touched → t.port = s.port
  emulator : .emulator ∉ touched → t.emulator = s.emulator
  tests : .tests ∉ touched → t.tests = s.tests

/-- A command leaves every block alone that it does not touch. -/
theorem State.after_keeps (s : State) (c : Instr) : KeepsOthers (touches c) s (s.after c) := by
  cases c <;> simp only [State.after, exec, execReset, execMarkRecognised, execMarkDeadline, execListenTimeout,
    execMarkDriveRelease, execSlotBegin, execOwnFrameComplete, execCollision, execCollisionJudgement,
    execFrameReceived, execSlotEnd, execClose, execVoteCompletion, execEpsPulseEnd, execEmissionEdge, execRoundBegin,
    execNoticeCollision, execNoticeFrameComplete, execRoundEnd, execNoticeReceived, execCsnFall, execCsnRise,
    execBadCommand, execReadStatus, execReadEvents, execEventRecordDelivered, execPin, execUnpin, execReadPage,
    execReadPeers, execClearFaults, execWithdraw, execRejoin, execRestart, execStartTest, execClearResult,
    execPostNotice, execSyncFound, execCodingBroken, execCommandByte]
  all_goals repeat' split
  all_goals constructor <;> simp [touches]

/-! ### Commands other than RESET keep the strapped values -/

@[simp] theorem State.answer_strapped (s : State) (st : Status) (data : List Byte) :
    (s.answer st data).strapped = s.strapped := rfl

@[simp] theorem State.slotBegin_strapped (s : State) (k : Station) : (s.slotBegin k).strapped = s.strapped := by
  simp only [State.slotBegin]
  repeat' split
  all_goals rfl

@[simp] theorem State.roundBegin_strapped (s : State) (j : RoundNumber) : (s.roundBegin j).strapped = s.strapped := by
  simp only [State.roundBegin]
  repeat' split
  all_goals rfl

@[simp] theorem State.roundEnd_strapped (s : State) (j : RoundNumber) : (s.roundEnd j).strapped = s.strapped := by
  simp only [State.roundEnd, State.emit_strapped]
  split <;> rfl

@[simp] theorem State.takeFrame_strapped (s : State) (k : Station) (frame : BitVec 102) :
    (s.takeFrame k frame).strapped = s.strapped := by
  simp only [State.takeFrame]
  split
  · simp only [State.raiseDuplicateId_strapped]; rfl
  · rfl

@[simp] theorem State.receiveNotice_strapped (s : State) (frame : BitVec 49) :
    (s.receiveNotice frame).strapped = s.strapped := by
  simp only [State.receiveNotice]
  repeat' split
  all_goals try simp only [State.raiseDuplicateId_strapped, State.takeNotice_strapped]
  all_goals rfl

/-- The straps are sampled by RESET alone (R43). -/
theorem State.after_strapped (s : State) {c : Instr} (hc : ∀ x low, c ≠ .reset x low) :
    (s.after c).strapped = s.strapped := by
  cases c with
  | reset x low => exact absurd rfl (hc x low)
  | markRecognised m => exact keeps_iteB (P := fun x => x.strapped = s.strapped) (fun _ => rfl) fun _ => s.mark_strapped m
  | slotBegin k => exact keeps_ite (P := fun x => x.strapped = s.strapped) rfl fun _ => s.slotBegin_strapped k
  | collisionJudgement =>
    exact keeps_ite (P := fun x => x.strapped = s.strapped) rfl fun _ => State.raiseDuplicateId_strapped _
  | frameReceived frame =>
    simp only [State.after, exec, execFrameReceived]
    split
    · exact keeps_ite (P := fun x => x.strapped = s.strapped) rfl fun _ => s.takeFrame_strapped _ frame
    all_goals rfl
  | close => exact keeps_ite (P := fun x => x.strapped = s.strapped) rfl fun _ => State.admission_strapped ..
  | roundBegin j => exact keeps_ite (P := fun x => x.strapped = s.strapped) rfl fun _ => s.roundBegin_strapped j
  | roundEnd j => exact keeps_ite (P := fun x => x.strapped = s.strapped) rfl fun _ => s.roundEnd_strapped j
  | noticeReceived frame =>
    exact keeps_ite (P := fun x => x.strapped = s.strapped) rfl fun _ => s.receiveNotice_strapped frame
  | withdraw =>
    exact keeps_ite (P := fun x => x.strapped = s.strapped) rfl fun _ =>
      keeps_iteB (P := fun x => x.strapped = s.strapped) (fun _ => rfl) fun _ => rfl
  | rejoin =>
    exact keeps_ite (P := fun x => x.strapped = s.strapped) rfl fun _ =>
      keeps_iteB (P := fun x => x.strapped = s.strapped)
        (fun _ => by rw [State.answer_strapped, State.emit_strapped, State.enterJoining_strapped]) fun _ => rfl
  | restart => exact keeps_ite (P := fun x => x.strapped = s.strapped) rfl fun _ => rfl
  | _ =>
    exact State.strapped_eq_of_blocks ((s.after_keeps _).timer (by simp [touches]))
      ((s.after_keeps _).member (by simp [touches]))

end Sys2Proof.Machine
end

section
/-! SUPPORT. The Axis Table under every operation on it (R1 to R5, R13): unbinding, binding, the delivery, the vote and its
write-back each keep a sound table sound. -/

namespace Sys2Proof.Machine

/-! ### Rows and the stations in them -/

/-- The part of `State.tableSound` that speaks of the table's rows. -/
def tableOk (p : Plan) (rows : List Row) : Prop :=
  rows.length = 8 ∧ (∀ r ∈ rows, r.sound p ∧ r.consistent) ∧ boundOnce rows

/-- The part of `State.tableSound` that speaks of a vote in flight. -/
def voteOk (p : Plan) (vote : Option VoteInFlight) : Prop :=
  ∀ v ∈ vote, v.rows.length = 8 ∧ ∀ r ∈ v.rows, r.sound p

theorem State.tableSound_iff (s : State) :
    s.tableSound ↔ tableOk s.plan s.engine.rows ∧ voteOk s.plan s.engine.vote := by
  simp only [State.tableSound, tableOk, voteOk, and_assoc]

theorem Row.has_eq_of_stations {r q : Row} (h : r.sources.map Source.station = q.sources.map Source.station)
    (k : Station) : r.has k = q.has k := by
  have hany (x : Row) : x.has k = (x.sources.map Source.station).any (· == k) := by
    simp [Row.has, List.any_map, Function.comp_def]
  rw [hany, hany, h]

theorem boundOnce_iff (rows : List Row) :
    boundOnce rows ↔ ∀ i j (hi : i < rows.length) (hj : j < rows.length), i ≠ j →
      ∀ k, rows[i].has k = true → rows[j].has k = false := by
  rw [boundOnce, List.pairwise_iff_getElem]
  constructor
  · intro h i j hi hj hne k hk
    rcases Nat.lt_or_gt_of_ne hne with hlt | hgt
    · exact Row.not_has_of_has (h i j hi hj hlt) hk
    · exact Row.not_has_of_has (fun a ha b hb => (h j i hj hi hgt b hb a ha).symm) hk
  · intro h i j hi hj hlt a ha b hb heq
    have hi' := (Row.has_iff _ _).2 ⟨a, ha, rfl⟩
    have hj' := (Row.has_iff _ _).2 ⟨b, hb, heq.symm⟩
    rw [h i j hi hj hlt.ne _ hi'] at hj'
    cases hj'

/-- Rows that gain no station keep every station in one row. -/
theorem boundOnce.of_has {rows rows' : List Row} (h : boundOnce rows) (hlen : rows'.length = rows.length)
    (hhas : ∀ i (hi : i < rows'.length) (hi' : i < rows.length) k, rows'[i].has k = true → rows[i].has k = true) :
    boundOnce rows' := by
  rw [boundOnce_iff] at h ⊢
  intro i j hi hj hne k hk
  refine Bool.eq_false_iff.2 fun hjk => ?_
  have := h i j (hlen ▸ hi) (hlen ▸ hj) hne k (hhas i hi _ k hk)
  rw [hhas j hj (hlen ▸ hj) k hjk] at this
  cases this

theorem planTable_positive (p : PlanCode) : 1 ≤ (planTable p).div ∧ 1 ≤ (planTable p).readmit ∧
    1 ≤ (planTable p).stale ∧ (planTable p).stale ≤ 255 ∧ 4 ≤ (planTable p).n ∧ (planTable p).n ≤ 16 := by
  revert p; decide

/-! ### Cleared rows -/

theorem Row.cleared_sound {p : Plan} (hp : 1 ≤ p.stale) : Row.cleared.sound p ∧ Row.cleared.consistent := by
  simp [Row.sound, Row.consistent, Row.cleared, stationsAscend, runsInRange]
  omega

theorem tableOk_cleared {p : Plan} (hp : 1 ≤ p.stale) : tableOk p (List.replicate 8 Row.cleared) := by
  refine ⟨rfl, fun r hr => ?_, (boundOnce_iff _).2 fun i j hi hj _ k hk => ?_⟩
  · rw [(List.mem_replicate.1 hr).2]
    exact Row.cleared_sound hp
  · rw [List.getElem_replicate] at hk
    simp at hk

/-! ### Unbinding (R12) -/

theorem Row.sound.released {p : Plan} {r : Row} (h : r.sound p) (k : Station) : (r.released k).sound p := by
  obtain ⟨hlen, hasc, hruns, hage, hstale⟩ := h
  refine ⟨?_, ?_, fun src hsrc => ?_, by simpa using hage, by simpa using hstale⟩
  · rw [Row.released_sources]
    exact (List.length_filter_le ..).trans hlen
  · rw [Row.released_sources]
    exact List.Pairwise.sublist ((List.filter_sublist).map _) hasc
  · rw [Row.released_sources] at hsrc
    exact hruns src (List.mem_of_mem_filter hsrc)

theorem Row.consistent.released {r : Row} (h : r.consistent) (k : Station) : (r.released k).consistent := by
  unfold Row.consistent
  cases hk : r.has k with
  | false => simpa [hk, Row.consistent] using h
  | true =>
    rw [Row.released_state]
    by_cases hlast : (r.released k).sources = []
    · simp [hk, hlast]
    · have hsome : r.sources ≠ [] := fun hnil => by simp [Row.has, hnil] at hk
      simpa [hlast] using fun hu => hsome (h.1 hu)

theorem Row.released_has (r : Row) (k j : Station) : (r.released k).has j = (r.has j && decide (j ≠ k)) := by
  rw [Bool.eq_iff_iff, Row.has_iff, Row.released_sources, Bool.and_eq_true, Row.has_iff]
  simp only [List.mem_filter, decide_eq_true_eq]
  constructor
  · rintro ⟨src, ⟨hmem, hne⟩, rfl⟩
    exact ⟨⟨src, hmem, rfl⟩, hne⟩
  · rintro ⟨⟨src, hmem, rfl⟩, hne⟩
    exact ⟨src, ⟨hmem, hne⟩, rfl⟩

theorem tableOk.unbindRows {p : Plan} {rows : List Row} (h : tableOk p rows) (e : Epoch) (k : Station) :
    tableOk p (unbindRows e rows k).1 := by
  obtain ⟨hlen, hrows, hone⟩ := h
  rw [unbindRows_fst]
  refine ⟨by simpa using hlen, ?_, hone.of_has (by simp) fun i hi hi' j hj => ?_⟩
  · intro r hr
    obtain ⟨q, hq, rfl⟩ := List.mem_map.1 hr
    exact ⟨(hrows q hq).1.released k, (hrows q hq).2.released k⟩
  · rw [List.getElem_map, Row.released_has, Bool.and_eq_true] at hj
    exact hj.1

/-! ### Binding (R10) -/

theorem mem_insertSource {x src : Source} {l : List Source} : x ∈ insertSource src l ↔ x = src ∨ x ∈ l := by
  induction l with
  | nil => simp [insertSource]
  | cons y ys ih =>
    unfold insertSource
    split
    · simp
    · simp only [List.mem_cons, ih, or_left_comm]

@[simp] theorem insertSource_length (src : Source) (l : List Source) : (insertSource src l).length = l.length + 1 := by
  induction l with
  | nil => rfl
  | cons y ys ih => unfold insertSource; split <;> simp [ih]

@[simp] theorem insertSource_ne_nil (src : Source) (l : List Source) : insertSource src l ≠ [] :=
  List.ne_nil_of_length_pos (by simp)

/-- A new station's record is inserted where ascending order has its place (R2). -/
theorem stationsAscend.insertSource {l : List Source} {src : Source} (h : stationsAscend l)
    (hnew : ∀ x ∈ l, x.station ≠ src.station) : stationsAscend (insertSource src l) := by
  unfold stationsAscend at h ⊢
  rw [List.pairwise_map] at h ⊢
  induction l with
  | nil => simp [Machine.insertSource]
  | cons y ys ih =>
    obtain ⟨hy, hys⟩ := List.pairwise_cons.1 h
    obtain ⟨hne, hnews⟩ := List.forall_mem_cons.1 hnew
    unfold Machine.insertSource
    split
    · next hlt =>
      have hlt' : src.station.toNat < y.station.toNat := BitVec.lt_def.1 hlt
      refine List.pairwise_cons.2 ⟨fun x hx => ?_, h⟩
      rcases List.mem_cons.1 hx with rfl | hx
      · exact hlt'
      · exact hlt'.trans (hy x hx)
    · next hlt =>
      have hle : y.station.toNat < src.station.toNat := by
        have := mt BitVec.lt_def.2 hlt
        have := mt BitVec.eq_of_toNat_eq hne
        omega
      refine List.pairwise_cons.2 ⟨fun x hx => ?_, ih hys hnews⟩
      rcases mem_insertSource.1 hx with rfl | hx
      · exact hle
      · exact hy x hx

theorem Row.bind_has (r : Row) (k j : Station) : (r.bind k).has j = (decide (j = k) || r.has j) := by
  rw [Bool.eq_iff_iff, Row.has_iff, Bool.or_eq_true, Row.has_iff, decide_eq_true_eq]
  simp only [Row.bind, mem_insertSource]
  constructor
  · rintro ⟨src, rfl | hmem, rfl⟩
    · exact .inl rfl
    · exact .inr ⟨src, hmem, rfl⟩
  · rintro (rfl | ⟨src, hmem, rfl⟩)
    · exact ⟨_, .inl rfl, rfl⟩
    · exact ⟨src, .inr hmem, rfl⟩

theorem Row.sound.bind {p : Plan} {r : Row} (h : r.sound p) {k : Station} (hroom : r.sources.length < 3)
    (hnew : r.has k = false) : (r.bind k).sound p ∧ (r.bind k).consistent := by
  obtain ⟨hlen, hasc, hruns, hage, hstale⟩ := h
  have hne : ∀ x ∈ r.sources, x.station ≠ k := by simpa [Row.has] using hnew
  refine ⟨⟨?_, hasc.insertSource hne, fun src hsrc => ?_, hage, hstale⟩, ?_⟩
  · simp only [Row.bind, insertSource_length]
    omega
  · rcases mem_insertSource.1 hsrc with rfl | hsrc
    · exact ⟨Nat.zero_le _, Nat.zero_le _⟩
    · exact hruns src hsrc
  · simp only [Row.consistent, Row.bind, insertSource_ne_nil, iff_false]
    split <;> simp_all

/-- A row of the table after another was put in the place of the row of an axis. -/
theorem rowOf_set {rows : List Row} (hlen : rows.length = 8) (a b : Axis) (r : Row) :
    rowOf (rows.set a.toNat r) b = if b = a then r else rowOf rows b := by
  have ha : a.toNat < rows.length := by have := a.isLt; omega
  unfold rowOf
  by_cases h : b = a
  · subst h
    simp [ha]
  · have hne : a.toNat ≠ b.toNat := fun heq => h (BitVec.eq_of_toNat_eq heq.symm)
    simp [h, hne]

theorem rowOf_mem {rows : List Row} (hlen : rows.length = 8) (a : Axis) : rowOf rows a ∈ rows := by
  have ha : a.toNat < rows.length := by have := a.isLt; omega
  simp [rowOf, ha]

theorem getElem_eq_rowOf {rows : List Row} (hlen : rows.length = 8) {i : Nat} (hi : i < rows.length) :
    rows[i] = rowOf rows (BitVec.ofNat 3 i) := by
  have hmod : i % 8 = i := Nat.mod_eq_of_lt (hlen ▸ hi)
  simp [rowOf, hmod, hi]

/-- In a table of eight rows, no station is a source of two rows exactly if no two axes share one. -/
theorem boundOnce_iff_rowOf {rows : List Row} (hlen : rows.length = 8) :
    boundOnce rows ↔ ∀ (a b : Axis) (k : Station), (rowOf rows a).has k = true → (rowOf rows b).has k = true → a = b := by
  rw [boundOnce_iff]
  constructor
  · intro h a b k ha hb
    by_contra hne
    have hna : a.toNat ≠ b.toNat := fun heq => hne (BitVec.eq_of_toNat_eq heq)
    have hla := a.isLt
    have hlb := b.isLt
    have := h a.toNat b.toNat (by omega) (by omega) hna k
    rw [getElem_eq_rowOf hlen, getElem_eq_rowOf hlen, BitVec.ofNat_toNat, BitVec.ofNat_toNat, BitVec.setWidth_eq,
      BitVec.setWidth_eq, hb] at this
    exact absurd (this ha) (by decide)
  · intro h i j hi hj hne k hk
    refine Bool.eq_false_iff.2 fun hjk => hne ?_
    rw [getElem_eq_rowOf hlen] at hk hjk
    have := congrArg BitVec.toNat (h _ _ k hk hjk)
    simp only [BitVec.toNat_ofNat] at this
    omega

/-- What a bind claim of station k leaves at the row of each axis: k leaves every other row, and joins its own when it has
room (R10). -/
theorem rowOf_bindRows {e : Epoch} {rows : List Row} (hlen : rows.length = 8) {k : Station} {axis : Axis}
    {refused : Bool} (hnew : (rowOf rows axis).has k = false) (a : Axis) :
    rowOf (bindRows e rows k axis refused).1 a =
      if a = axis ∧ (rowOf rows axis).sources.length < 3 then (rowOf rows axis).bind k
      else (rowOf rows a).released k := by
  have hrow : rowOf (unbindRows e rows k).1 axis = rowOf rows axis := by
    rw [rowOf_unbindRows, Row.released_of_not_has hnew]
  simp only [bindRows, hnew, hrow, rowCapacity, Bool.false_eq_true, if_false]
  by_cases hroom : (rowOf rows axis).sources.length < 3
  · simp only [hroom, if_true, and_true]
    rw [rowOf_set ((unbindRows_length ..).trans hlen), rowOf_unbindRows]
  · simp only [hroom, if_false, and_false]
    rw [rowOf_unbindRows]

theorem bindRows_of_has {e : Epoch} {rows : List Row} {k : Station} {axis : Axis} {refused : Bool}
    (h : (rowOf rows axis).has k = true) : bindRows e rows k axis refused = (rows, .already, []) := by
  simp [bindRows, h]

/-- A claim that finds no such source is answered by the room in the row (R10). -/
theorem bindRows_answer {e : Epoch} {rows : List Row} {k : Station} {axis : Axis} {refused : Bool}
    (hnew : (rowOf rows axis).has k = false) :
    (bindRows e rows k axis refused).2.1 = if (rowOf rows axis).sources.length < 3 then .bound else .refused := by
  have hrow : rowOf (unbindRows e rows k).1 axis = rowOf rows axis := by
    rw [rowOf_unbindRows, Row.released_of_not_has hnew]
  simp only [bindRows, hnew, hrow, rowCapacity, Bool.false_eq_true, if_false]
  split <;> rfl

theorem tableOk_iff_rowOf {p : Plan} {rows : List Row} :
    tableOk p rows ↔ rows.length = 8 ∧ (∀ a : Axis, (rowOf rows a).sound p ∧ (rowOf rows a).consistent) ∧
      ∀ (a b : Axis) (k : Station), (rowOf rows a).has k = true → (rowOf rows b).has k = true → a = b := by
  unfold tableOk
  refine and_congr_right fun hlen => and_congr ⟨fun h a => h _ (rowOf_mem hlen a), fun h r hr => ?_⟩
    (boundOnce_iff_rowOf hlen)
  obtain ⟨a, rfl⟩ := exists_rowOf_of_mem hlen hr
  exact h a

theorem tableOk.bindRows {p : Plan} {rows : List Row} (h : tableOk p rows) (e : Epoch) (k : Station) (axis : Axis)
    (refused : Bool) : tableOk p (bindRows e rows k axis refused).1 := by
  cases hk : (rowOf rows axis).has k with
  | true => rwa [bindRows_of_has hk]
  | false =>
    rw [tableOk_iff_rowOf] at h ⊢
    obtain ⟨hlen, hrows, hone⟩ := h
    refine ⟨(bindRows_length ..).trans hlen, fun a => ?_, fun a b j => ?_⟩
    · rw [rowOf_bindRows hlen hk]
      split
      · next hroom => exact (hrows axis).1.bind hroom.2 hk
      · exact ⟨(hrows a).1.released k, (hrows a).2.released k⟩
    · rw [rowOf_bindRows hlen hk, rowOf_bindRows hlen hk]
      have hjoin (c : Axis) (hc : (if c = axis ∧ (rowOf rows axis).sources.length < 3 then (rowOf rows axis).bind k
          else (rowOf rows c).released k).has j = true) : (rowOf rows c).has j = true ∧ j ≠ k ∨ c = axis ∧ j = k := by
        split at hc
        · next hroom =>
          obtain ⟨rfl, -⟩ := hroom
          rw [Row.bind_has] at hc
          by_cases hj : j = k <;> simp_all
        · rw [Row.released_has] at hc
          simp_all
      intro ha hb
      rcases hjoin a ha with ⟨ha, hja⟩ | ⟨rfl, hja⟩ <;> rcases hjoin b hb with ⟨hb, hjb⟩ | ⟨rfl, hjb⟩
      · exact hone a b j ha hb
      · exact absurd hjb hja
      · exact absurd hja hjb
      · rfl

/-! ### The delivery (R8) -/

/-- A row with the list's samples placed in its sources. -/
def Row.placed (r : Row) (axis : Nat) (list : List AdmittedSample) : Row :=
  { r with sources := r.sources.map fun src => src.place axis list }

theorem placeFrom_eq (list : List AdmittedSample) (axis : Nat) (rows : List Row) :
    placeFrom list axis rows = rows.mapIdx fun i r => r.placed (axis + i) list := by
  induction rows generalizing axis with
  | nil => rfl
  | cons r rs ih =>
    simp only [placeFrom, ih, List.mapIdx_cons, Nat.add_zero, Nat.add_assoc, Nat.add_comm 1]
    rfl

theorem rowOf_placeFrom (list : List AdmittedSample) (rows : List Row) (a : Axis) :
    rowOf (placeFrom list 0 rows) a = (rowOf rows a).placed a.toNat list := by
  rw [placeFrom_eq]
  simp only [rowOf, List.getD_eq_getElem?_getD, List.getElem?_mapIdx, Nat.zero_add]
  cases rows[a.toNat]? <;> rfl

@[simp] theorem placeFrom_length (list : List AdmittedSample) (axis : Nat) (rows : List Row) :
    (placeFrom list axis rows).length = rows.length := by
  simp [placeFrom_eq]

theorem Row.placed_stations (r : Row) (axis : Nat) (list : List AdmittedSample) :
    (r.placed axis list).sources.map Source.station = r.sources.map Source.station := by
  simp [Row.placed, Source.place, Function.comp_def]

@[simp] theorem Row.placed_has (r : Row) (axis : Nat) (list : List AdmittedSample) (k : Station) :
    (r.placed axis list).has k = r.has k := Row.has_eq_of_stations (r.placed_stations axis list) k

theorem Row.sound.placed {p : Plan} {r : Row} (h : r.sound p) (axis : Nat) (list : List AdmittedSample) :
    (r.placed axis list).sound p := by
  obtain ⟨hlen, hasc, hruns, hage, hstale⟩ := h
  refine ⟨by simpa [Row.placed] using hlen, ?_, fun src hsrc => ?_, hage, hstale⟩
  · unfold stationsAscend
    rwa [Row.placed_stations]
  · obtain ⟨x, hx, rfl⟩ := List.mem_map.1 hsrc
    exact hruns x hx

theorem tableOk.placeFrom {p : Plan} {rows : List Row} (h : tableOk p rows) (list : List AdmittedSample) :
    tableOk p (placeFrom list 0 rows) := by
  rw [tableOk_iff_rowOf] at h ⊢
  obtain ⟨hlen, hrows, hone⟩ := h
  refine ⟨(placeFrom_length ..).trans hlen, fun a => ?_, fun a b k => ?_⟩
  · rw [rowOf_placeFrom]
    exact ⟨(hrows a).1.placed _ _, by simpa [Row.consistent, Row.placed] using (hrows a).2⟩
  · simpa only [rowOf_placeFrom, Row.placed_has] using hone a b k

theorem tableOk.voteOk {p : Plan} {rows : List Row} (h : tableOk p rows) {v : VoteInFlight} (hv : v.rows = rows) :
    voteOk p (some v) := by
  intro w hw
  obtain rfl : v = w := Option.some.inj hw
  exact hv ▸ ⟨h.1, fun r hr => (h.2.1 r hr).1⟩

/-! ### The vote (Chapter 2) -/

@[simp] theorem Source.score_station (src : Source) (p : Plan) (v : Verdict) :
    (src.score p v).1.station = src.station := by
  simp only [Source.score]
  repeat' split
  all_goals rfl

/-- Stages 3 and 5 keep the runs in their ranges (R3). -/
theorem Source.score_runs {p : Plan} {src : Source}
    (h : src.disagreeRun ≤ p.div ∧ src.agreeRun ≤ p.readmit) (v : Verdict) :
    (src.score p v).1.disagreeRun ≤ p.div ∧ (src.score p v).1.agreeRun ≤ p.readmit := by
  simp only [Source.score]
  repeat' split
  all_goals simp only [ge_iff_le, Nat.not_le] at *
  all_goals omega

theorem Row.rebuild_stations (r : Row) : r.rebuild.1.sources.map Source.station = r.sources.map Source.station := by
  unfold Row.rebuild
  split <;> simp [Function.comp_def]

theorem Row.rebuild_runs {p : Plan} {r : Row} (h : runsInRange p r.sources) : runsInRange p r.rebuild.1.sources := by
  unfold Row.rebuild
  split
  · intro src hsrc
    obtain ⟨x, -, rfl⟩ := List.mem_map.1 hsrc
    exact ⟨Nat.zero_le _, Nat.zero_le _⟩
  · exact h

/-- The rebuild keeps everything of a row but its sources (R23). -/
theorem Row.rebuild_kept (r : Row) : r.rebuild.1.state = r.state ∧ r.rebuild.1.value = r.value ∧
    r.rebuild.1.holdAge = r.holdAge ∧ r.rebuild.1.stale = r.stale := by
  unfold Row.rebuild
  split <;> exact ⟨rfl, rfl, rfl, rfl⟩

/-- Stage 4 keeps the hold age in range and STALE with it (R5, R33, R34). -/
theorem Row.settle_age {p : Plan} {r : Row} (hp : 1 ≤ p.stale) (hage : r.holdAge ≤ 255)
    (hstale : r.stale = true ↔ p.stale ≤ r.holdAge) (e : Epoch) (v : Verdict) :
    (r.settle p e v).holdAge ≤ 255 ∧ ((r.settle p e v).stale = true ↔ p.stale ≤ (r.settle p e v).holdAge) := by
  unfold Row.settle
  split
  · exact ⟨Nat.zero_le _, by simp; omega⟩
  · simp only [Bool.or_eq_true, decide_eq_true_eq, hstale, ge_iff_le]
    omega

theorem Row.sound.vote {p : Plan} {r : Row} (h : r.sound p) (hp : 1 ≤ p.stale) (e : Epoch) :
    (r.vote p e).1.sound p := by
  obtain ⟨hlen, hasc, hruns, hage, hstale⟩ := h
  obtain ⟨-, -, hageEq, hstaleEq⟩ := r.rebuild_kept
  refine ⟨?_, ?_, fun src hsrc => ?_, ?_⟩
  · rw [← List.length_map Source.station, Row.vote_stations, List.length_map]
    exact hlen
  · unfold stationsAscend
    rwa [Row.vote_stations]
  · obtain ⟨x, hx, rfl⟩ := List.mem_map.1 hsrc
    exact Source.score_runs (Row.rebuild_runs hruns x hx) _
  · exact Row.settle_age (r := r.rebuild.1) hp (hageEq ▸ hage) (by rw [hageEq, hstaleEq]; exact hstale) e _

/-! ### The write-back (R15) -/

theorem Source.writeBack_runs {p : Plan} {src : Source} {voted : Row}
    (h : src.disagreeRun ≤ p.div ∧ src.agreeRun ≤ p.readmit) (hv : runsInRange p voted.sources) :
    (src.writeBack voted).disagreeRun ≤ p.div ∧ (src.writeBack voted).agreeRun ≤ p.readmit := by
  unfold Source.writeBack
  split
  · next x hx => exact hv x (List.mem_of_find?_eq_some hx)
  · exact h

theorem settledState_eq_unbound_iff (sources : List Source) (st : RowState) :
    settledState sources st = .unbound ↔ sources = [] := by
  unfold settledState
  cases sources <;> cases st <;> simp

theorem Row.sound.writeBack {p : Plan} {t v : Row} (ht : t.sound p) (hv : v.sound p) :
    (t.writeBack v).sound p ∧ (t.writeBack v).consistent := by
  obtain ⟨hlen, hasc, hruns, -, -⟩ := ht
  obtain ⟨-, -, hvruns, hage, hstale⟩ := hv
  refine ⟨⟨by simpa [Row.writeBack] using hlen, ?_, fun src hsrc => ?_, hage, hstale⟩, ?_⟩
  · unfold stationsAscend
    rwa [Row.writeBack_stations]
  · obtain ⟨x, hx, rfl⟩ := List.mem_map.1 hsrc
    exact Source.writeBack_runs (hruns x hx) hvruns
  · simp [Row.consistent, Row.writeBack, settledState_eq_unbound_iff]

theorem rowOf_writeBackRows {table voted : List Row} (ht : table.length = 8) (hv : voted.length = 8) (a : Axis) :
    rowOf (writeBackRows table voted) a = (rowOf table a).writeBack (rowOf voted a) := by
  have hat : a.toNat < table.length := by have := a.isLt; omega
  have hav : a.toNat < voted.length := by have := a.isLt; omega
  simp [rowOf, writeBackRows, hat, hav]

theorem tableOk.writeBackRows {p : Plan} {table voted : List Row} (h : tableOk p table) (hlen : voted.length = 8)
    (hv : ∀ r ∈ voted, r.sound p) : tableOk p (writeBackRows table voted) := by
  rw [tableOk_iff_rowOf] at h ⊢
  obtain ⟨hlent, hrows, hone⟩ := h
  refine ⟨by simp [Machine.writeBackRows, hlent, hlen], fun a => ?_, fun a b k => ?_⟩
  · rw [rowOf_writeBackRows hlent hlen]
    exact (hrows a).1.writeBack (hv _ (rowOf_mem hlen a))
  · simpa only [rowOf_writeBackRows hlent hlen, Row.has_eq_of_stations (Row.writeBack_stations _ _)] using hone a b k

end Sys2Proof.Machine
end

section
/-! SUPPORT. A close, said once: when it is raised and on which state admission is taken (R71), the tests of step 3 in each self
state (R90 to R95), and what each of their outcomes makes of the state. -/

namespace Sys2Proof.Machine

/-! ### The close (R71) -/

/-- The state that a close hands to admission: the position is GAP, the heard set is latched and the counts are rewritten. -/
def State.closed (s : State) : State :=
  { s with
    timer.position := .gap
    line := s.line.close
    freeCount := if s.sentAfterLeaving then s.freeCount + 1 else s.freeCount }

/-- Whether a close is raised: in a drawn schedule before its close, at its time or later (R51, R52). -/
def State.closeRaised (s : State) : Prop :=
  s.drawn = true ∧ s.timer.position.beforeClose = true ∧ s.reached (closeTime s.plan.n) = true

theorem State.after_close_of_raised {s : State} (h : s.closeRaised) :
    s.after .close = s.closed.admission s.handsSent := if_pos h

/-- A close either is not raised, and changes nothing, or is admission on the closed state. -/
theorem State.after_close_cases (s : State) :
    s.after .close = s ∨ s.closeRaised ∧ s.after .close = s.closed.admission s.handsSent := by
  by_cases h : s.closeRaised
  · exact .inr ⟨h, if_pos h⟩
  · exact .inl (if_neg h)

/-! ### LISTEN (R90, R91) -/

/-- The state with the plan-mismatch run counted (R91). -/
def State.countMismatch (s : State) : State :=
  { s with member.mismatchRun := if mismatchClose s.line.buffer then s.member.mismatchRun + 1 else 0 }

/-- The state with the listen run set. -/
def State.setListenRun (s : State) (n : Nat) : State := { s with member.listenRun := n }

/-- The entry to LOCKOUT by PLAN_MISMATCH, with its records (R91, R100). -/
def State.mismatchLockout (s : State) : State :=
  ((((s.setListenRun 0).setFault .planMismatch).enterLockout).emit
      (faultEvents s.faults s.timer.epoch .planMismatch)).emit (s.lockoutUnbindEvents ++ s.lockoutEvents)

/-- The entry to JOINING with its records (R92). -/
def State.join (s : State) : State := s.enterJoining.emit s.joiningEvents

/-- What a close makes of a station in LISTEN. -/
theorem State.testListen_cases (s : State) (adopted : Bool) :
    8 ≤ s.countMismatch.member.mismatchRun ∧ s.testListen adopted = s.countMismatch.mismatchLockout ∨
    s.countMismatch.member.mismatchRun < 8 ∧ s.admittedFrames = [] ∧
      s.testListen adopted = s.countMismatch.setListenRun 0 ∨
    s.countMismatch.member.mismatchRun < 8 ∧ s.admittedFrames ≠ [] ∧ s.member.listenRun = 1 ∧ adopted = false ∧
      s.testListen adopted = s.countMismatch.join ∨
    s.countMismatch.member.mismatchRun < 8 ∧ s.admittedFrames ≠ [] ∧ ¬(s.member.listenRun = 1 ∧ adopted = false) ∧
      s.testListen adopted = s.countMismatch.setListenRun 1 := by
  have heq : s.testListen adopted =
      if 8 ≤ s.countMismatch.member.mismatchRun then s.countMismatch.mismatchLockout
      else if s.admittedFrames.isEmpty then s.countMismatch.setListenRun 0
      else if s.member.listenRun = 1 ∧ adopted = false then s.countMismatch.join
      else s.countMismatch.setListenRun 1 := rfl
  rw [heq]
  by_cases hm : 8 ≤ s.countMismatch.member.mismatchRun
  · exact .inl ⟨hm, if_pos hm⟩
  rw [if_neg hm]
  by_cases he : s.admittedFrames = []
  · exact .inr (.inl ⟨Nat.lt_of_not_le hm, he, by simp [he]⟩)
  by_cases hj : s.member.listenRun = 1 ∧ adopted = false
  · exact .inr (.inr (.inl ⟨Nat.lt_of_not_le hm, he, hj.1, hj.2, by simp [he, hj]⟩))
  · refine .inr (.inr (.inr ⟨Nat.lt_of_not_le hm, he, hj, ?_⟩))
    rw [if_neg (by simpa using he), if_neg hj]

/-! ### JOINING (R93, R95) -/

/-- The state with the join run and the join count set (R93). -/
def State.setJoinRuns (s : State) (run count : Nat) : State := { s with member.joinRun := run, member.joinEpochs := count }

/-- What a sending close makes of a JOINING station: ACTIVE at the third run, LISTEN at the sixteenth count. -/
theorem State.testJoining_cases (s : State) (adopted : Bool) :
    3 ≤ s.nextJoinRun adopted ∧ s.testJoining adopted =
      (s.setJoinRuns (s.nextJoinRun adopted) (s.member.joinEpochs + 1)).enterActive.emit
        [evStationState s.timer.epoch .active] ∨
    s.nextJoinRun adopted < 3 ∧ 16 ≤ s.member.joinEpochs + 1 ∧ s.testJoining adopted =
      (s.setJoinRuns (s.nextJoinRun adopted) (s.member.joinEpochs + 1)).fallToListen.emit
        [evPlain .joinFailed s.timer.epoch, evStationState s.timer.epoch .listen] ∨
    s.nextJoinRun adopted < 3 ∧ s.member.joinEpochs + 1 < 16 ∧ s.testJoining adopted =
      s.setJoinRuns (s.nextJoinRun adopted) (s.member.joinEpochs + 1) := by
  have heq : s.testJoining adopted = if 3 ≤ s.nextJoinRun adopted then
      (s.setJoinRuns (s.nextJoinRun adopted) (s.member.joinEpochs + 1)).enterActive.emit
        [evStationState s.timer.epoch .active]
    else if 16 ≤ s.member.joinEpochs + 1 then
      (s.setJoinRuns (s.nextJoinRun adopted) (s.member.joinEpochs + 1)).fallToListen.emit
        [evPlain .joinFailed s.timer.epoch, evStationState s.timer.epoch .listen]
    else s.setJoinRuns (s.nextJoinRun adopted) (s.member.joinEpochs + 1) := rfl
  rw [heq]
  by_cases hr : 3 ≤ s.nextJoinRun adopted
  · exact .inl ⟨hr, if_pos hr⟩
  rw [if_neg hr]
  by_cases hc : 16 ≤ s.member.joinEpochs + 1
  · exact .inr (.inl ⟨Nat.lt_of_not_le hr, hc, if_pos hc⟩)
  · exact .inr (.inr ⟨Nat.lt_of_not_le hr, Nat.lt_of_not_le hc, if_neg hc⟩)

/-! ### ACTIVE (R94, R95) -/

/-- The state with the unheard run set. -/
def State.setUnheardRun (s : State) (n : Nat) : State := { s with member.unheardRun := n }

/-- The fall to LISTEN by TX_UNHEARD, with its records (R94, R95). -/
def State.unheardFall (s : State) : State :=
  ((s.setFault .txUnheard).fallToListen).emit
    (faultEvents s.faults s.timer.epoch .txUnheard ++ [evStationState s.timer.epoch .listen])

/-- What a sending close without adoption makes of an ACTIVE station. -/
theorem State.testActive_cases (s : State) :
    s.presentFrames = [] ∧ s.testActive = s ∨
    s.presentFrames ≠ [] ∧ s.heardBy s.presentFrames = true ∧ s.testActive = s.setUnheardRun 0 ∨
    s.presentFrames ≠ [] ∧ s.heardBy s.presentFrames = false ∧ 4 ≤ s.member.unheardRun + 1 ∧
      s.testActive = s.unheardFall ∨
    s.presentFrames ≠ [] ∧ s.heardBy s.presentFrames = false ∧ s.member.unheardRun + 1 < 4 ∧
      s.testActive = s.setUnheardRun (s.member.unheardRun + 1) := by
  have heq : s.testActive = if s.presentFrames.isEmpty then s
      else if s.heardBy s.presentFrames then s.setUnheardRun 0
      else if 4 ≤ s.member.unheardRun + 1 then s.unheardFall else s.setUnheardRun (s.member.unheardRun + 1) := rfl
  rw [heq]
  by_cases he : s.presentFrames = []
  · exact .inl ⟨he, by simp [he]⟩
  rw [if_neg (by simpa using he)]
  cases hh : s.heardBy s.presentFrames with
  | true => exact .inr (.inl ⟨he, rfl, rfl⟩)
  | false =>
    by_cases hr : 4 ≤ s.member.unheardRun + 1
    · exact .inr (.inr (.inl ⟨he, rfl, hr, by simp [hr]⟩))
    · exact .inr (.inr (.inr ⟨he, rfl, Nat.lt_of_not_le hr, by simp [hr]⟩))

/-! ### All self states (R81) -/

/-- What step 3 leaves, by its outcomes: the state itself, a run counted, or one of the five changes of self state. -/
inductive SelfTested (s : State) : State → Prop
  | same : SelfTested s s
  | mismatch (h : s.member.selfState = .listen) (hrun : 8 ≤ s.countMismatch.member.mismatchRun) :
      SelfTested s s.countMismatch.mismatchLockout
  | listens (h : s.member.selfState = .listen) (hrun : s.countMismatch.member.mismatchRun < 8) (n : Nat) (hn : n ≤ 1) :
      SelfTested s (s.countMismatch.setListenRun n)
  | joins (h : s.member.selfState = .listen) (hrun : s.countMismatch.member.mismatchRun < 8) :
      SelfTested s s.countMismatch.join
  | activates (h : s.member.selfState = .joining) (run : Nat) (hrun : run ≤ s.member.joinRun + 1) :
      SelfTested s ((s.setJoinRuns run (s.member.joinEpochs + 1)).enterActive.emit
        [evStationState s.timer.epoch .active])
  | fails (h : s.member.selfState = .joining) (run : Nat) :
      SelfTested s ((s.setJoinRuns run (s.member.joinEpochs + 1)).fallToListen.emit
        [evPlain .joinFailed s.timer.epoch, evStationState s.timer.epoch .listen])
  | counts (h : s.member.selfState = .joining) (run : Nat) (hrun : run < 3) (hcount : s.member.joinEpochs + 1 < 16) :
      SelfTested s (s.setJoinRuns run (s.member.joinEpochs + 1))
  | falls (h : s.member.selfState = .active) : SelfTested s s.unheardFall
  | unheard (h : s.member.selfState = .active) (n : Nat) (hn : n < 4) : SelfTested s (s.setUnheardRun n)

theorem State.nextJoinRun_le (s : State) (adopted : Bool) : s.nextJoinRun adopted ≤ s.member.joinRun + 1 := by
  unfold State.nextJoinRun
  repeat' split
  all_goals omega

theorem State.testSelf_tested (s : State) (before : SelfState) (sent adopted : Bool) :
    SelfTested s (s.testSelf before sent adopted) := by
  cases hst : s.member.selfState with
  | listen =>
    have heq : s.testSelf before sent adopted = s.testListen adopted := by simp [State.testSelf, hst]
    rw [heq]
    rcases s.testListen_cases adopted with ⟨hr, h⟩ | ⟨hr, -, h⟩ | ⟨hr, -, -, -, h⟩ | ⟨hr, -, -, h⟩ <;> rw [h]
    · exact .mismatch hst hr
    · exact .listens hst hr 0 (by omega)
    · exact .joins hst hr
    · exact .listens hst hr 1 le_rfl
  | joining =>
    have heq : s.testSelf before sent adopted = if before = .joining ∧ sent then s.testJoining adopted else s := by
      simp [State.testSelf, hst]
    rw [heq]
    split
    · rcases s.testJoining_cases adopted with ⟨-, h⟩ | ⟨-, -, h⟩ | ⟨hr, hc, h⟩ <;> rw [h]
      · exact .activates hst _ (s.nextJoinRun_le adopted)
      · exact .fails hst _
      · exact .counts hst _ hr hc
    · exact .same
  | active =>
    have heq : s.testSelf before sent adopted = if sent then s.testActive else s := by simp [State.testSelf, hst]
    rw [heq]
    split
    · rcases s.testActive_cases with ⟨-, h⟩ | ⟨-, -, h⟩ | ⟨-, -, -, h⟩ | ⟨-, -, hr, h⟩ <;> rw [h]
      · exact .same
      · exact .unheard hst 0 (by omega)
      · exact .falls hst
      · exact .unheard hst _ hr
    · exact .same
  | leaving | withdrawn | lockout =>
    have heq : s.testSelf before sent adopted = s := by simp [State.testSelf, hst]
    rw [heq]
    exact .same

end Sys2Proof.Machine
end

section
/-! SUPPORT. The Axis Table and the membership together (R13): which row each station is listed in, what unbinding, binding and
the Peer Table's changes make of that, and the statement that every step keeps it. -/

namespace Sys2Proof.Machine

/-! ### The engine's rows and vote, under a plan -/

/-- `State.tableSound` of an engine, under a plan. -/
def AgreementEngine.ok (p : Plan) (e : AgreementEngine) : Prop := tableOk p e.rows ∧ voteOk p e.vote

theorem State.tableSound_iff_ok (s : State) : s.tableSound ↔ s.engine.ok s.plan := s.tableSound_iff

theorem AgreementEngine.ok_cleared {p : Plan} (hp : 1 ≤ p.stale) :
    AgreementEngine.ok p ⟨List.replicate 8 Row.cleared, none⟩ :=
  ⟨tableOk_cleared hp, fun _ h => nomatch h⟩

theorem voteOk.map_testRuns {p : Plan} {vote : Option VoteInFlight} (h : voteOk p vote) (runs : Bool) :
    voteOk p (vote.map fun v => { v with testRuns := runs }) := by
  intro w hw
  obtain ⟨v, hv, rfl⟩ := Option.map_eq_some_iff.1 hw
  exact h v hv

/-- An abort leaves the table alone; it takes the shadow of a VOTE test from the vote in flight (R170). -/
theorem State.abortTest_engine_cases (s : State) (why : AbortReason) :
    (s.abortTest why).engine = s.engine ∨
      (s.abortTest why).engine = { s.engine with vote := s.engine.vote.map fun v => { v with testRuns := false } } := by
  unfold State.abortTest
  split
  · next r _ =>
    split
    · unfold State.finishTest
      cases r.code with
      | vote => exact .inr rfl
      | inject | monitor | pulse => exact .inl rfl
    · exact .inl rfl
  · exact .inl rfl

@[simp] theorem State.abortTest_rows (s : State) (why : AbortReason) :
    (s.abortTest why).engine.rows = s.engine.rows := by
  rcases s.abortTest_engine_cases why with h | h <;> rw [h]

theorem AgreementEngine.ok.abortTest {p : Plan} {s : State} (h : s.engine.ok p) (why : AbortReason) :
    (s.abortTest why).engine.ok p := by
  rcases s.abortTest_engine_cases why with he | he <;> rw [he]
  · exact h
  · exact ⟨h.1, h.2.map_testRuns false⟩

theorem AgreementEngine.ok.unbindOwn {p : Plan} {s : State} (h : s.engine.ok p) : s.unbindOwn.engine.ok p :=
  ⟨h.1.unbindRows _ _, h.2⟩

theorem AgreementEngine.ok.unbindPeer {p : Plan} {s : State} (h : s.engine.ok p) (k : Station) :
    (s.unbindPeer k).engine.ok p :=
  ⟨h.1.unbindRows _ _, h.2⟩

theorem AgreementEngine.ok.enterLockout {p : Plan} {s : State} (h : s.engine.ok p) : s.enterLockout.engine.ok p := by
  unfold State.enterLockout
  refine AgreementEngine.ok.abortTest ?_ _
  split
  · exact h.unbindOwn
  · exact h

theorem AgreementEngine.ok.raiseDuplicateId {p : Plan} {s : State} (h : s.engine.ok p) :
    s.raiseDuplicateId.engine.ok p := by
  unfold State.raiseDuplicateId
  split
  · exact h
  · exact AgreementEngine.ok.enterLockout (s := s.setFault .duplicateId) h

theorem AgreementEngine.ok.takeFrame {p : Plan} {s : State} (h : s.engine.ok p) (k : Station) (frame : BitVec 102) :
    (s.takeFrame k frame).engine.ok p := by
  unfold State.takeFrame
  exact keeps_iteB (P := fun x : State => x.engine.ok p) (fun _ => AgreementEngine.ok.raiseDuplicateId h) fun _ => h

theorem AgreementEngine.ok.takeNotice {p : Plan} {s : State} (h : s.engine.ok p) (f : NoticeFields) :
    (s.takeNotice f).engine.ok p := by
  unfold State.takeNotice
  split
  · unfold State.takeLeave
    exact keeps_iteB (P := fun x : State => x.engine.ok p) (fun _ => h) fun _ =>
      keeps_iteB (P := fun x : State => x.engine.ok p) (fun _ => h.unbindPeer _) fun _ => h
  all_goals exact h

theorem AgreementEngine.ok.receiveNotice {p : Plan} {s : State} (h : s.engine.ok p) (frame : BitVec 49) :
    (s.receiveNotice frame).engine.ok p := by
  simp only [State.receiveNotice]
  repeat' split
  · exact AgreementEngine.ok.raiseDuplicateId h
  · exact AgreementEngine.ok.takeNotice (s := { s with line.receiver := .settled }) h _
  · exact h

/-! ### A close -/

theorem AgreementEngine.ok.updatePeer {p : Plan} {s : State} (h : s.engine.ok p) (k : Station) :
    (s.updatePeer k).engine.ok p := by
  unfold State.updatePeer
  split
  · exact h
  · split
    · simp only [State.hearPeer]
      repeat' split
      · exact h.unbindPeer k
      · exact h
      · exact h.unbindPeer k
      · exact h
    · simp only [State.missPeer]
      repeat' split
      · exact h
      · exact h
      · exact h
      · exact h.unbindPeer k
      · exact h
      · exact h

theorem AgreementEngine.ok.claim {p : Plan} {s : State} (h : s.engine.ok p) (k : Station) :
    (s.claim k).engine.ok p := by
  have hpeer : (s.claimPeer k).engine.ok p := ⟨h.1.bindRows .., h.2⟩
  have hown : s.claimOwn.engine.ok p := ⟨h.1.bindRows .., h.2⟩
  unfold State.claim
  exact keeps_iteB (P := fun x : State => x.engine.ok p)
    (fun _ => keeps_ite (P := fun x : State => x.engine.ok p) h fun _ => hown)
    (fun _ => keeps_ite (P := fun x : State => x.engine.ok p) h fun _ => hpeer)

theorem AgreementEngine.ok.deliver {p : Plan} {s : State} (h : s.engine.ok p) (list : List AdmittedSample) :
    (s.deliver list).engine.ok p :=
  ⟨h.1.placeFrom list, (h.1.placeFrom list).voteOk rfl⟩

@[simp] theorem State.adopt_engine (s : State) (e : Option Epoch) : (s.adopt e).engine = s.engine := by
  cases e with
  | none => rfl
  | some e => simp only [State.adopt]; split <;> simp

theorem AgreementEngine.ok.testSelf {p : Plan} (hp : 1 ≤ p.stale) {s : State} (h : s.engine.ok p)
    (before : SelfState) (sent adopted : Bool) : (s.testSelf before sent adopted).engine.ok p := by
  have htested := s.testSelf_tested before sent adopted
  generalize s.testSelf before sent adopted = t at htested
  cases htested with
  | mismatch => exact AgreementEngine.ok.enterLockout (s := (s.countMismatch.setListenRun 0).setFault .planMismatch) h
  | joins => simpa [State.join, State.countMismatch] using h
  | fails | falls => exact AgreementEngine.ok_cleared hp
  | same | listens | activates | counts | unheard => exact h

theorem AgreementEngine.ok.admission {p : Plan} (hp : 1 ≤ p.stale) {s : State} (h : s.engine.ok p) (sent : Bool) :
    (s.admission sent).engine.ok p := by
  have hpeers : (s.adopt (s.adoption sent)).updatePeers.engine.ok p :=
    foldl_keeps (P := fun x : State => x.engine.ok p) (fun _ k hx => hx.updatePeer k) (by simpa using h) _
  have hself := hpeers.testSelf hp s.member.selfState sent (s.adoption sent).isSome
  simp only [State.admission]
  split
  · exact AgreementEngine.ok.deliver
      (foldl_keeps (P := fun x : State => x.engine.ok p) (fun _ k hx => hx.claim k) hself _) _
  · exact hself

/-! ### A vote's completion -/

/-- The table that a completion writes back; no vote is in flight then (R15, R41). -/
@[simp] theorem State.completeVote_engine (s : State) (v : VoteInFlight) :
    (s.completeVote v).engine = ⟨writeBackRows s.engine.rows (v.voted s.plan), none⟩ := by
  have hend (x : State) (hx : x.engine.vote = none) : x.endVoteTest.engine = x.engine := by
    simp only [State.endVoteTest, State.emit_engine]
    cases voteTestOutcome x.plan <;> simp [State.endTest, State.finishTest, State.endEffects, hx]
    all_goals rw [← hx]
  simp only [State.completeVote]
  split
  · rw [hend _ rfl]; rfl
  · rfl

theorem AgreementEngine.ok.completeVote {p : Plan} (hp : 1 ≤ p.stale) {s : State} (h : s.engine.ok p)
    (hplan : s.plan = p) {v : VoteInFlight} (hv : s.engine.vote = some v) : (s.completeVote v).engine.ok p := by
  obtain ⟨htable, hvote⟩ := h
  obtain ⟨hlen, hrows⟩ := hvote v hv
  rw [State.completeVote_engine, hplan]
  refine ⟨htable.writeBackRows (by simpa [VoteInFlight.voted] using hlen) fun r hr => ?_, fun _ h => nomatch h⟩
  obtain ⟨q, hq, rfl⟩ := List.mem_map.1 hr
  exact (hrows q hq).vote hp _

/-! ### Every command -/

theorem State.plan_eq_of_strapped {s t : State} (h : t.strapped = s.strapped) : t.plan = s.plan :=
  congrArg (fun x : PlanCode × Station × Axis => planTable x.1) h

/-- Every command keeps R1 to R5 and the first part of R13 of the engine. -/
theorem State.tableSound.after {s : State} (h : s.tableSound) (c : Instr) : (s.after c).tableSound := by
  have hp : 1 ≤ s.plan.stale := (planTable_positive _).2.2.1
  rw [State.tableSound_iff_ok] at h ⊢
  by_cases hreset : ∃ x low, c = .reset x low
  · obtain ⟨x, low, rfl⟩ := hreset
    exact AgreementEngine.ok_cleared (planTable_positive _).2.2.1
  rw [State.plan_eq_of_strapped (s.after_strapped (by simpa using hreset))]
  cases c with
  | collisionJudgement =>
    exact keeps_ite (P := fun x : State => x.engine.ok s.plan) h fun _ => AgreementEngine.ok.raiseDuplicateId h
  | frameReceived frame =>
    simp only [State.after, exec, execFrameReceived]
    split
    · exact keeps_ite (P := fun x : State => x.engine.ok s.plan) h fun _ => h.takeFrame _ frame
    all_goals exact h
  | noticeReceived frame =>
    exact keeps_ite (P := fun x : State => x.engine.ok s.plan) h fun _ => h.receiveNotice frame
  | close =>
    rcases s.after_close_cases with heq | ⟨-, heq⟩ <;> rw [heq]
    · exact h
    · exact AgreementEngine.ok.admission hp (s := s.closed) h _
  | voteCompletion =>
    simp only [State.after, exec, execVoteCompletion]
    split
    · next v hv => exact h.completeVote hp rfl hv
    · exact h
  | withdraw =>
    exact keeps_ite (P := fun x : State => x.engine.ok s.plan) h fun _ =>
      keeps_iteB (P := fun x : State => x.engine.ok s.plan) (fun _ => h.unbindOwn) fun _ => h
  | restart =>
    exact keeps_ite (P := fun x : State => x.engine.ok s.plan) h fun _ => by
      simpa using AgreementEngine.ok_cleared hp
  | reset x low => exact absurd ⟨x, low, rfl⟩ hreset
  | _ => rwa [(s.after_keeps _).engine (by simp [touches])]

end Sys2Proof.Machine
end

section
/-! SUPPORT. The Axis Table and the Peer Table together (R13): in which row each station is listed, what unbinding, binding and the
Peer Table's changes make of that, and the statement that every step keeps both. -/

namespace Sys2Proof.Machine

/-! ### Who is listed where -/

/-- The stations of a table are listed as `f` says: station k is a source of the row of `f k`, and of no other. -/
def rowsListed (rows : List Row) (f : Station → Option Axis) : Prop :=
  ∀ (k : Station) (a : Axis), (rowOf rows a).has k = true ↔ f k = some a

/-- The axis a station is bound to by its bound flag (R101). -/
def MembershipUnit.listed (m : MembershipUnit) (k : Station) : Option Axis :=
  if k = m.ownStation then (if m.ownBound then some m.ownAxis else none)
  else if (m.peer k).bound then some (m.peer k).axis else none

/-- A bound station is in a state that may be: the own one JOINING or ACTIVE, a peer PRESENT or SILENT (R13). -/
def MembershipUnit.boundStates (m : MembershipUnit) : Prop :=
  (m.ownBound = true → m.selfState.member = true) ∧
    ∀ k, k ≠ m.ownStation → (m.peer k).bound = true → (m.peer k).state.counted = true

theorem SelfState.member_iff (st : SelfState) : st.member = true ↔ st = .joining ∨ st = .active := by
  cases st <;> simp [SelfState.member]

theorem PeerState.counted_iff (st : PeerState) : st.counted = true ↔ st = .present ∨ st = .silent := by
  cases st <;> simp [PeerState.counted]

theorem State.listedSound_iff (s : State) :
    s.listedSound ↔ rowsListed s.engine.rows s.member.listed ∧ s.member.boundStates := by
  have haxis (b : Bool) (x a : Axis) : (if b = true then some x else none) = some a ↔ b = true ∧ a = x := by
    cases b <;> simp [eq_comm]
  simp only [State.listedSound, rowsListed, MembershipUnit.listed, MembershipUnit.boundStates,
    SelfState.member_iff, PeerState.counted_iff]
  constructor
  · rintro ⟨hown, hself, hpeers⟩
    refine ⟨fun k a => ?_, hself, fun k hk => (hpeers k hk).2⟩
    split
    · next hk => rw [haxis, hk]; exact hown a
    · next hk => rw [haxis]; exact (hpeers k hk).1 a
  · rintro ⟨hrows, hself, hpeers⟩
    refine ⟨fun a => ?_, hself, fun k hk => ⟨fun a => ?_, hpeers k hk⟩⟩
    · rw [hrows, if_pos rfl, haxis]
    · rw [hrows, if_neg hk, haxis]

theorem rowsListed.of_has {rows rows' : List Row} {f : Station → Option Axis} (h : rowsListed rows f)
    (hhas : ∀ k a, (rowOf rows' a).has k = (rowOf rows a).has k) : rowsListed rows' f :=
  fun k a => by rw [hhas]; exact h k a

theorem rowsListed_cleared {f : Station → Option Axis} (h : ∀ k, f k = none) :
    rowsListed (List.replicate 8 Row.cleared) f := by
  intro k a
  have hrow : rowOf (List.replicate 8 Row.cleared) a = Row.cleared :=
    List.getD_replicate _ (BitVec.isLt _)
  rw [hrow, h]
  simp

theorem rowsListed.unbindRows {rows : List Row} {f : Station → Option Axis} (h : rowsListed rows f) (e : Epoch)
    (k : Station) : rowsListed (unbindRows e rows k).1 (Function.update f k none) := by
  intro j a
  rw [rowOf_unbindRows, Row.released_has, Bool.and_eq_true, decide_eq_true_eq, h j a, Function.update_apply]
  by_cases hj : j = k <;> simp [hj]

/-- A claim of a station that is listed nowhere lists it in the row, if the row has room (R10). -/
theorem rowsListed.bindRows {rows : List Row} {f : Station → Option Axis} (h : rowsListed rows f)
    (hlen : rows.length = 8) {k : Station} (hk : f k = none) (e : Epoch) (axis : Axis) (refused : Bool) :
    rowsListed (bindRows e rows k axis refused).1
      (Function.update f k (if (rowOf rows axis).sources.length < 3 then some axis else none)) := by
  have hnot (a : Axis) : (rowOf rows a).has k = false := by
    rw [Bool.eq_false_iff, Ne, h k a, hk]
    simp
  intro j a
  rw [rowOf_bindRows hlen (hnot axis), Function.update_apply]
  by_cases hroom : (rowOf rows axis).sources.length < 3 <;> by_cases ha : a = axis <;> by_cases hj : j = k <;>
    simp [hroom, ha, hj, Row.bind_has, hnot, h j, eq_comm (a := axis)]

/-! ### Entries of the Peer Table -/

theorem MembershipUnit.peer_setPeer {m : MembershipUnit} (hlen : m.peers.length = 16) (k j : Station) (p : PeerEntry) :
    (m.setPeer k p).peer j = if j = k then p else m.peer j := by
  have hk : k.toNat < m.peers.length := by have := k.isLt; omega
  by_cases h : j = k
  · subst h
    simp [MembershipUnit.peer, MembershipUnit.setPeer, hk]
  · have hne : k.toNat ≠ j.toNat := fun heq => h (BitVec.eq_of_toNat_eq heq.symm)
    simp [MembershipUnit.peer, MembershipUnit.setPeer, h, hne]

@[simp] theorem MembershipUnit.setPeer_length (m : MembershipUnit) (k : Station) (p : PeerEntry) :
    (m.setPeer k p).peers.length = m.peers.length := by
  simp [MembershipUnit.setPeer]

/-- A peer's entry replaced: the peer is listed by its new bound flag and axis. -/
theorem MembershipUnit.listed_setPeer {m : MembershipUnit} (hlen : m.peers.length = 16) {k : Station}
    (hk : k ≠ m.ownStation) (p : PeerEntry) :
    (m.setPeer k p).listed = Function.update m.listed k (if p.bound then some p.axis else none) := by
  funext j
  rw [Function.update_apply]
  unfold MembershipUnit.listed
  rw [MembershipUnit.peer_setPeer hlen]
  by_cases hj : j = k
  · subst hj
    simp only [if_true]
    exact if_neg hk
  · simp only [if_neg hj]
    rfl

theorem MembershipUnit.boundStates.setPeer {m : MembershipUnit} (h : m.boundStates) (hlen : m.peers.length = 16)
    {k : Station} {p : PeerEntry} (hp : p.bound = true → p.state.counted = true) : (m.setPeer k p).boundStates := by
  refine ⟨h.1, fun j hj => ?_⟩
  rw [MembershipUnit.peer_setPeer hlen]
  split
  · exact hp
  · exact h.2 j hj

/-- The Axis Table and the Peer Table agree on who is listed where (R13), each of its full length. -/
structure State.Listing (s : State) : Prop where
  rows_length : s.engine.rows.length = 8
  peers_length : s.member.peers.length = 16
  rows : rowsListed s.engine.rows s.member.listed
  states : s.member.boundStates

theorem State.Listing.listedSound {s : State} (h : s.Listing) : s.listedSound :=
  s.listedSound_iff.2 ⟨h.rows, h.states⟩

/-- The agreement reads the rows and the Membership Unit alone. -/
theorem State.Listing.congr {s t : State} (h : s.Listing) (he : t.engine.rows = s.engine.rows)
    (hm : t.member = s.member) : t.Listing :=
  ⟨he ▸ h.rows_length, hm ▸ h.peers_length, by rw [he, hm]; exact h.rows, hm ▸ h.states⟩

/-- A new self state that may be bound wherever the own station is. -/
theorem State.Listing.setSelf {s t : State} (h : s.Listing) (he : t.engine.rows = s.engine.rows)
    (hm : { s.member with selfState := t.member.selfState, listenRun := t.member.listenRun
                          mismatchRun := t.member.mismatchRun, joinRun := t.member.joinRun
                          joinEpochs := t.member.joinEpochs, unheardRun := t.member.unheardRun } = t.member)
    (hself : s.member.ownBound = true → t.member.selfState.member = true) : t.Listing := by
  refine ⟨he ▸ h.rows_length, ?_, ?_, ?_⟩
  · rw [← hm]; exact h.peers_length
  · rw [he, ← hm]; exact h.rows
  · rw [← hm]; exact ⟨hself, h.states.2⟩

theorem State.Listing.clearTable_fall {s : State} : s.fallToListen.Listing := by
  have hpeer (k : Station) : s.fallToListen.member.peer k = PeerEntry.cleared :=
    List.getD_replicate _ (BitVec.isLt _)
  refine ⟨rfl, by simp [State.fallToListen], rowsListed_cleared fun k => ?_, ?_, fun k _ hb => ?_⟩
  · unfold MembershipUnit.listed
    rw [hpeer]
    split <;> rfl
  · exact fun hb => nomatch hb
  · rw [hpeer] at hb
    cases hb

/-! ### Unbinding a peer, and the own station -/

/-- A peer that is lost or leaves: its entry unbound, its record out of the table (R86, R88). -/
theorem State.Listing.unbind {s : State} (h : s.Listing) {k : Station} (hk : k ≠ s.member.ownStation) {p : PeerEntry}
    (hp : p.bound = false) {t : State} (hm : t.member = s.member.setPeer k p)
    (he : t.engine.rows = if (s.member.peer k).bound then (unbindRows s.timer.epoch s.engine.rows k).1
      else s.engine.rows) : t.Listing := by
  have hrows : rowsListed t.engine.rows (Function.update s.member.listed k none) := by
    rw [he]
    split
    · exact h.rows.unbindRows _ k
    · next hb =>
      rw [show Function.update s.member.listed k none = s.member.listed from
        Function.update_eq_self_iff.2 (by simp [MembershipUnit.listed, hk, hb])]
      exact h.rows
  refine ⟨?_, ?_, ?_, ?_⟩
  · rw [he]
    split
    · exact (unbindRows_length ..).trans h.rows_length
    · exact h.rows_length
  · rw [hm, MembershipUnit.setPeer_length]
    exact h.peers_length
  · rw [hm, MembershipUnit.listed_setPeer h.peers_length hk, hp]
    exact hrows
  · rw [hm]
    exact h.states.setPeer h.peers_length (by simp [hp])

/-- An entry rewritten that stays bound to its axis, or unbound. -/
theorem State.Listing.setPeer {s : State} (h : s.Listing) {k : Station} (hk : k ≠ s.member.ownStation) {p : PeerEntry}
    (hp : p.bound = (s.member.peer k).bound) (hax : p.bound = true → p.axis = (s.member.peer k).axis)
    (hst : p.bound = true → p.state.counted = true) {t : State} (hm : t.member = s.member.setPeer k p)
    (he : t.engine.rows = s.engine.rows) : t.Listing := by
  refine ⟨he ▸ h.rows_length, ?_, ?_, ?_⟩
  · rw [hm, MembershipUnit.setPeer_length]
    exact h.peers_length
  · rw [hm, he, MembershipUnit.listed_setPeer h.peers_length hk, Function.update_eq_self_iff.2]
    · exact h.rows
    · simp only [MembershipUnit.listed, hk, if_false, ← hp]
      split
      · next hb => rw [hax hb]
      · rfl
  · rw [hm]
    exact h.states.setPeer h.peers_length hst

/-- The own unbind, in any self state (R96, R100). -/
theorem State.Listing.unbindOwn {s : State} (h : s.Listing) {t : State}
    (he : t.engine.rows = (unbindRows s.timer.epoch s.engine.rows s.member.ownStation).1)
    (hm : { s.member with selfState := t.member.selfState, ownBound := false, ownRefused := false } = t.member) :
    t.Listing := by
  have hlisted : t.member.listed = Function.update s.member.listed s.member.ownStation none := by
    funext j
    rw [← hm, Function.update_apply]
    unfold MembershipUnit.listed
    by_cases hj : j = s.member.ownStation
    · simp [hj]
    · simp [hj, MembershipUnit.peer]
  refine ⟨?_, ?_, ?_, ?_⟩
  · rw [he]; exact (unbindRows_length ..).trans h.rows_length
  · rw [← hm]; exact h.peers_length
  · rw [he, hlisted]; exact h.rows.unbindRows _ _
  · rw [← hm]; exact ⟨fun hb => (nomatch hb), h.states.2⟩

/-! ### The close's steps -/

/-- An entry with an admitted frame, rewritten (R85, R87). -/
def PeerEntry.heardAs (p : PeerEntry) (f : FrameRecord) : PeerEntry := ((p.moveAxis f).advance).hear f

theorem PeerEntry.heardAs_axis (p : PeerEntry) (f : FrameRecord) : (p.heardAs f).axis = f.axis := rfl

@[simp] theorem PeerEntry.moveAxis_state (p : PeerEntry) (f : FrameRecord) : (p.moveAxis f).state = p.state := by
  unfold PeerEntry.moveAxis
  repeat' split
  all_goals rfl

@[simp] theorem PeerEntry.advance_bound (p : PeerEntry) : p.advance.bound = p.bound := by
  unfold PeerEntry.advance
  split <;> rfl

theorem PeerEntry.heardAs_bound (p : PeerEntry) (f : FrameRecord) :
    (p.heardAs f).bound = (p.bound && !p.changesAxis f) := by
  have hmove : (p.moveAxis f).bound = (p.bound && !p.changesAxis f) := by
    unfold PeerEntry.moveAxis
    cases p.changesAxis f <;> cases hb : p.bound <;> simp [hb]
  simp [PeerEntry.heardAs, PeerEntry.hear, hmove]

theorem PeerEntry.heardAs_state (p : PeerEntry) (f : FrameRecord) :
    (p.heardAs f).state = if p.state = .absent then .new else .present := by
  have hadv : (p.moveAxis f).advance.state = if p.state = .absent then .new else .present := by
    cases hs : p.state <;> simp [PeerEntry.advance, hs]
  exact hadv

/-- What a close with an admitted frame makes of the rows and the members (R85, R87). -/
theorem State.hearPeer_kept (s : State) (k : Station) (f : FrameRecord) :
    (s.hearPeer k f).member = s.member.setPeer k ((s.member.peer k).heardAs f) ∧
      (s.hearPeer k f).engine = { s.engine with
        rows := if (s.member.peer k).changesAxis f = true ∧ (s.member.peer k).bound = true
          then (unbindRows s.timer.epoch s.engine.rows k).1 else s.engine.rows } := by
  simp only [State.hearPeer]
  repeat' split
  all_goals exact ⟨rfl, rfl⟩

theorem State.Listing.hearPeer {s : State} (h : s.Listing) {k : Station} (hk : k ≠ s.member.ownStation)
    (f : FrameRecord) : (s.hearPeer k f).Listing := by
  obtain ⟨hm, he⟩ := s.hearPeer_kept k f
  have hbound := (s.member.peer k).heardAs_bound f
  cases hb : (s.member.peer k).bound with
  | false =>
    refine h.unbind hk (by simp [hbound, hb]) hm ?_
    simp [he, hb]
  | true =>
    cases hc : (s.member.peer k).changesAxis f with
    | true =>
      refine h.unbind hk (by simp [hbound, hc]) hm ?_
      simp [he, hb, hc]
    | false =>
      have hcounted := h.states.2 k hk hb
      refine h.setPeer hk (by simp [hbound, hb, hc]) (fun _ => ?_) (fun _ => ?_) hm (by simp [he, hc])
      · have hax : (s.member.peer k).axis = f.axis := by simpa [PeerEntry.changesAxis, hcounted] using hc
        exact hax.symm
      · rw [PeerEntry.heardAs_state]
        rcases (PeerState.counted_iff _).1 hcounted with hs | hs <;> simp [hs, PeerState.counted]

theorem State.Listing.missPeer {s : State} (h : s.Listing) {k : Station} (hk : k ≠ s.member.ownStation) :
    (s.missPeer k).Listing := by
  have hnone (hst : (s.member.peer k).state.counted = false) : (s.member.peer k).bound = false := by
    by_contra hb
    rw [h.states.2 k hk (by simpa using hb)] at hst
    cases hst
  simp only [State.missPeer]
  split
  · exact h
  · next hst => exact h.unbind hk rfl rfl (by simp [hnone (by simp [hst, PeerState.counted])])
  · exact h.setPeer hk (p := { s.member.peer k with state := .silent, missRun := 1 }) rfl (fun _ => rfl) (fun _ => rfl)
      rfl rfl
  · next hst =>
    split
    · split
      · next hb => exact h.unbind hk (p := (s.member.peer k).lose) rfl rfl (if_pos hb).symm
      · next hb => exact h.unbind hk (p := (s.member.peer k).lose) rfl rfl (if_neg hb).symm
    · exact h.setPeer hk (p := { s.member.peer k with missRun := (s.member.peer k).missRun + 1 }) rfl (fun _ => rfl)
        (fun _ => by simp [hst, PeerState.counted]) rfl rfl

theorem State.Listing.updatePeer {s : State} (h : s.Listing) (k : Station) : (s.updatePeer k).Listing := by
  unfold State.updatePeer
  split
  · exact h
  · next hk =>
    have hown : k ≠ s.member.ownStation := fun heq => hk (.inl heq)
    split
    · exact h.hearPeer hown _
    · exact h.missPeer hown

/-- A station that no row lists is a source of none. -/
theorem State.Listing.not_has {s : State} (h : s.Listing) {k : Station} (hk : s.member.listed k = none) (a : Axis) :
    (rowOf s.engine.rows a).has k = false := by
  rw [Bool.eq_false_iff, Ne, h.rows k a, hk]
  simp

/-- An entry with the flags that a claim's answer brings (R101). -/
def PeerEntry.answered (p : PeerEntry) : BindAnswer → PeerEntry
  | .bound => { p with bound := true, refused := false }
  | .already => { p with bound := true }
  | .refused => { p with bound := false, refused := true }

/-- The own flags that a claim's answer brings (R101). -/
def MembershipUnit.answered (m : MembershipUnit) : BindAnswer → MembershipUnit
  | .bound => { m with ownBound := true, ownRefused := false }
  | .already => { m with ownBound := true }
  | .refused => { m with ownBound := false, ownRefused := true }

/-- The bind claim of a peer, for the axis of its entry (R101). -/
def State.peerClaim (s : State) (k : Station) : List Row × BindAnswer × List EventRecord :=
  bindRows s.timer.epoch s.engine.rows k (s.member.peer k).axis (s.member.peer k).refused

/-- The own bind claim (R101). -/
def State.ownClaim (s : State) : List Row × BindAnswer × List EventRecord :=
  bindRows s.timer.epoch s.engine.rows s.member.ownStation s.member.ownAxis s.member.ownRefused

theorem State.claimPeer_eq (s : State) (k : Station) : s.claimPeer k =
    ({ s with
      engine.rows := (s.peerClaim k).1
      member := s.member.setPeer k ((s.member.peer k).answered (s.peerClaim k).2.1) } : State).emit
      (s.peerClaim k).2.2 := rfl

theorem State.claimOwn_eq (s : State) : s.claimOwn =
    ({ s with engine.rows := s.ownClaim.1, member := s.member.answered s.ownClaim.2.1 } : State).emit
      s.ownClaim.2.2 := rfl

theorem MembershipUnit.listed_answered (m : MembershipUnit) (a : BindAnswer) :
    (m.answered a).listed = Function.update m.listed m.ownStation (if a = .refused then none else some m.ownAxis) := by
  funext j
  rw [Function.update_apply]
  by_cases hj : j = m.ownStation
  · cases a <;> simp [MembershipUnit.listed, MembershipUnit.answered, hj]
  · cases a <;> simp [MembershipUnit.listed, MembershipUnit.answered, MembershipUnit.peer, hj]

theorem MembershipUnit.answered_kept (m : MembershipUnit) (a : BindAnswer) :
    (m.answered a).selfState = m.selfState ∧ (m.answered a).ownStation = m.ownStation ∧
      (m.answered a).peers = m.peers := by
  cases a <;> exact ⟨rfl, rfl, rfl⟩

theorem State.Listing.claimPeer {s : State} (h : s.Listing) {k : Station} (hk : k ≠ s.member.ownStation)
    (hcounted : (s.member.peer k).state.counted = true) (hb : (s.member.peer k).bound = false) :
    (s.claimPeer k).Listing := by
  have hnone : s.member.listed k = none := by simp [MembershipUnit.listed, hk, hb]
  have hanswer : (s.peerClaim k).2.1 = _ := bindRows_answer (h.not_has hnone _)
  have hrows := h.rows.bindRows h.rows_length hnone s.timer.epoch (s.member.peer k).axis (s.member.peer k).refused
  have hstate (a : BindAnswer) : ((s.member.peer k).answered a).state.counted = true := by cases a <;> exact hcounted
  rw [State.claimPeer_eq]
  refine ⟨(bindRows_length ..).trans h.rows_length, (s.member.setPeer_length k _).trans h.peers_length, ?_,
    h.states.setPeer h.peers_length fun _ => hstate _⟩
  rw [State.emit_member, MembershipUnit.listed_setPeer h.peers_length hk, hanswer]
  by_cases hroom : (rowOf s.engine.rows (s.member.peer k).axis).sources.length < 3 <;>
    simpa [hroom, PeerEntry.answered, State.peerClaim] using hrows

theorem State.Listing.claimOwn {s : State} (h : s.Listing) (hself : s.member.selfState.member = true)
    (hb : s.member.ownBound = false) : s.claimOwn.Listing := by
  have hnone : s.member.listed s.member.ownStation = none := by simp [MembershipUnit.listed, hb]
  have hanswer : s.ownClaim.2.1 = _ := bindRows_answer (h.not_has hnone _)
  have hrows := h.rows.bindRows h.rows_length hnone s.timer.epoch s.member.ownAxis s.member.ownRefused
  obtain ⟨hst, hown, hpeers⟩ := s.member.answered_kept s.ownClaim.2.1
  rw [State.claimOwn_eq]
  refine ⟨(bindRows_length ..).trans h.rows_length, by simpa [hpeers] using h.peers_length, ?_, ?_, ?_⟩
  · rw [State.emit_member, MembershipUnit.listed_answered, hanswer]
    by_cases hroom : (rowOf s.engine.rows s.member.ownAxis).sources.length < 3 <;>
      simpa [hroom, State.ownClaim] using hrows
  · exact fun _ => by simpa [hst] using hself
  · simpa [hown, MembershipUnit.peer, hpeers] using h.states.2

theorem State.Listing.claim {s : State} (h : s.Listing) (k : Station) : (s.claim k).Listing := by
  unfold State.claim
  split
  · exact keeps_ite h fun hc => h.claimOwn hc.1 hc.2
  · next hk => exact keeps_ite h fun hc => h.claimPeer hk hc.1 hc.2

/-! ### The changes of the self state -/

@[simp] theorem State.armDeadline_line_timer (s : State) :
    s.armDeadline.member = s.member ∧ s.armDeadline.engine = s.engine := ⟨by simp, by simp⟩

/-- The Membership Unit after an entry to JOINING (R92). -/
@[simp] theorem State.enterJoining_member (s : State) : s.enterJoining.member = { s.member with
    selfState := .joining
    joinRun := 0
    joinEpochs := 0
    listenRun := if s.member.selfState = .listen then 0 else s.member.listenRun
    mismatchRun := if s.member.selfState = .listen then 0 else s.member.mismatchRun } := by
  simp [State.enterJoining]

/-- The Membership Unit after an entry to LOCKOUT (R100). -/
@[simp] theorem State.enterLockout_member (s : State) : s.enterLockout.member = { s.member with
    selfState := .lockout, ownBound := false, ownRefused := false } := by
  simp only [State.enterLockout, State.abortTest_member]
  split <;> rfl

/-- The table after an entry to LOCKOUT: the own station has left it (R100). -/
@[simp] theorem State.enterLockout_rows (s : State) : s.enterLockout.engine.rows =
    if s.member.ownBound then (unbindRows s.timer.epoch s.engine.rows s.member.ownStation).1 else s.engine.rows := by
  simp only [State.enterLockout, State.abortTest_rows]
  split <;> rfl

theorem State.Listing.enterJoining {s : State} (h : s.Listing) : s.enterJoining.Listing :=
  h.setSelf (by simp) (by simp) fun _ => by simp [SelfState.member]

theorem State.Listing.enterLockout {s : State} (h : s.Listing) : s.enterLockout.Listing := by
  cases hb : s.member.ownBound with
  | true => exact h.unbindOwn (by simp [hb]) (by simp)
  | false =>
    refine ⟨by simpa [hb] using h.rows_length, by simpa using h.peers_length, ?_, by simp,
      by simpa [MembershipUnit.peer] using h.states.2⟩
    have hlisted : s.enterLockout.member.listed = s.member.listed := by
      funext j
      simp [MembershipUnit.listed, hb, MembershipUnit.peer]
    rw [hlisted]
    simpa [hb] using h.rows

theorem State.Listing.raiseDuplicateId {s : State} (h : s.Listing) : s.raiseDuplicateId.Listing := by
  unfold State.raiseDuplicateId
  split
  · exact h
  · exact (State.Listing.enterLockout (s := s.setFault .duplicateId) (h.congr rfl rfl)).congr rfl rfl

theorem State.Listing.testSelf {s : State} (h : s.Listing) (before : SelfState) (sent adopted : Bool) :
    (s.testSelf before sent adopted).Listing := by
  have htested := s.testSelf_tested before sent adopted
  generalize s.testSelf before sent adopted = t at htested
  cases htested with
  | same => exact h
  | mismatch =>
    exact (State.Listing.enterLockout (s := (s.countMismatch.setListenRun 0).setFault .planMismatch)
      (h.setSelf rfl rfl h.states.1)).congr rfl rfl
  | joins => exact (State.Listing.enterJoining (s := s.countMismatch) (h.setSelf rfl rfl h.states.1)).congr rfl rfl
  | fails | falls => exact State.Listing.clearTable_fall.congr rfl rfl
  | activates => exact h.setSelf rfl rfl fun _ => rfl
  | listens | counts | unheard => exact h.setSelf rfl rfl h.states.1

theorem State.Listing.adopt {s : State} (h : s.Listing) (e : Option Epoch) : (s.adopt e).Listing := by
  cases e with
  | none => exact h
  | some e =>
    have hcounted : State.Listing (({ s with timer.epoch := e } : State).emit [evPlain .resync e]) := h.congr rfl rfl
    exact keeps_iteB (fun _ => hcounted.enterJoining.congr rfl rfl) fun _ => hcounted

theorem State.Listing.deliver {s : State} (h : s.Listing) (list : List AdmittedSample) : (s.deliver list).Listing :=
  ⟨(placeFrom_length ..).trans h.rows_length, h.peers_length,
    h.rows.of_has fun k a => by
      rw [show rowOf (s.deliver list).engine.rows a = _ from rowOf_placeFrom list s.engine.rows a, Row.placed_has],
    h.states⟩

theorem State.Listing.admission {s : State} (h : s.Listing) (sent : Bool) : (s.admission sent).Listing := by
  have hpeers : (s.adopt (s.adoption sent)).updatePeers.Listing :=
    foldl_keeps (fun _ k hx => hx.updatePeer k) (h.adopt _) _
  have hself := hpeers.testSelf s.member.selfState sent (s.adoption sent).isSome
  simp only [State.admission]
  split
  · exact (foldl_keeps (fun _ k hx => hx.claim k) hself _ : State.Listing (State.claims _)).deliver _
  · exact hself

/-! ### Notices, votes and marks -/

theorem State.Listing.takeLeave {s : State} (h : s.Listing) {k : Station} (hk : k ≠ s.member.ownStation) :
    (s.takeLeave k).Listing := by
  unfold State.takeLeave
  refine keeps_iteB (fun _ => h) fun _ => keeps_iteB (fun hb => ?_) fun hb => ?_
  · exact h.unbind hk (p := (s.member.peer k).lose) rfl rfl (if_pos hb).symm
  · exact h.unbind hk (p := (s.member.peer k).lose) rfl rfl (if_neg hb).symm

theorem State.Listing.takeNotice {s : State} (h : s.Listing) {f : NoticeFields} (hk : f.station ≠ s.member.ownStation) :
    (s.takeNotice f).Listing := by
  unfold State.takeNotice
  split
  · exact h.takeLeave hk
  · exact h.setPeer hk (p := { s.member.peer f.station with reported := reportedOf f.argument }) rfl (fun _ => rfl)
      (h.states.2 f.station hk) rfl rfl
  · exact h.setPeer hk (p := { s.member.peer f.station with testReport := some (testReportOf f.argument) })
      rfl (fun _ => rfl)
      (h.states.2 f.station hk) rfl rfl
  · exact h.congr rfl rfl

theorem State.Listing.receiveNotice {s : State} (h : s.Listing) (frame : BitVec 49) : (s.receiveNotice frame).Listing := by
  simp only [State.receiveNotice]
  have hsettled : State.Listing { s with line.receiver := .settled } := h.congr rfl rfl
  repeat' split
  · exact hsettled.raiseDuplicateId
  · next hk => exact hsettled.takeNotice hk
  · exact hsettled

theorem State.Listing.takeFrame {s : State} (h : s.Listing) (k : Station) (frame : BitVec 102) :
    (s.takeFrame k frame).Listing := by
  simp only [State.takeFrame]
  have hset : State.Listing { s with
      line.buffer := s.line.buffer.set k.toNat (s.frameToRecord k frame), line.receiver := .settled } := h.congr rfl rfl
  split
  · exact hset.raiseDuplicateId
  · exact hset

theorem State.Listing.completeVote {s : State} (h : s.Listing) {v : VoteInFlight} (hv : v.rows.length = 8) :
    (s.completeVote v).Listing := by
  have hvoted : (v.voted s.plan).length = 8 := by simpa [VoteInFlight.voted] using hv
  refine ⟨?_, by simpa using h.peers_length, ?_, by simpa using h.states⟩
  · simp [writeBackRows, h.rows_length, hvoted]
  · rw [State.completeVote_engine, (State.completeVote_kept s v).2.2.1]
    refine h.rows.of_has fun k a => ?_
    rw [rowOf_writeBackRows h.rows_length hvoted, Row.has_eq_of_stations (Row.writeBack_stations _ _)]

/-- The Membership Unit after a mark: a withdrawal completed, or a cold start's entry to JOINING. -/
theorem State.Listing.mark {s : State} (h : s.Listing) (m : MarkInputs) : (s.mark m).Listing := by
  have hwithdraw (x : State) (hx : x.Listing) (hs : x.member.selfState = .leaving) : x.enterWithdrawn.Listing :=
    hx.setSelf rfl rfl fun hb => by simpa [hs, SelfState.member] using hx.states.1 hb
  have htimer (x : State) (hx : x.Listing) (drove : Bool) : (x.markLineAndTimer drove).Listing := by
    rw [State.markLineAndTimer_eq]
    have hleft : ((x.markTimed drove).withdrawnIf x.markTakesLeave).Listing := by
      have htimed : (x.markTimed drove).Listing := hx.congr rfl rfl
      unfold State.withdrawnIf
      refine keeps_ite htimed fun hl => hwithdraw _ htimed ?_
      simp only [State.markTakesLeave, Bool.and_eq_true, beq_iff_eq] at hl
      exact hl.2
    unfold State.armedIfSends
    exact keeps_ite hleft fun _ => hleft.congr (by simp) (by simp)
  have htest (x : State) (hx : x.Listing) : (x.markTestAndFaults m).Listing := by
    refine hx.congr ?_ (by simp)
    simp only [State.markTestAndFaults]
    repeat' split
    all_goals simp
  have hsensed : (s.markSensed m).Listing :=
    State.Listing.congr (htimer { s with freeCount := s.withdrawnAtMark.2 } (h.congr rfl rfl) m.drove) rfl rfl
  have hjoined : (s.markJoined m).Listing := by
    unfold State.markJoined
    split
    · exact (htest _ hsensed).enterJoining
    · exact htest _ hsensed
  rw [State.mark_eq]
  exact hjoined.congr (by rw [State.emitTogether_engine]) (State.emitTogether_member ..)

/-! ### Every command -/

theorem State.Listing.reset {s : State} (x : Straps) (low : Bool) : (s.after (.reset x low)).Listing := by
  have hpeer (k : Station) : (s.after (.reset x low)).member.peer k = PeerEntry.cleared :=
    List.getD_replicate _ (BitVec.isLt _)
  refine ⟨rfl, rfl, rowsListed_cleared fun k => ?_, fun hb => (nomatch hb), fun k _ hb => ?_⟩
  · unfold MembershipUnit.listed
    rw [hpeer]
    split <;> rfl
  · rw [hpeer] at hb
    cases hb

theorem State.Listing.restart {s : State} : s.restart.Listing := by
  have hmember : s.restart.member.ownBound = false ∧ s.restart.member.peers = List.replicate 16 PeerEntry.cleared :=
    ⟨rfl, rfl⟩
  have hpeer (k : Station) : s.restart.member.peer k = PeerEntry.cleared :=
    List.getD_replicate _ (BitVec.isLt _)
  refine ⟨by simp, rfl, ?_, fun hb => (nomatch hb), fun k _ hb => ?_⟩
  · rw [(State.restart_kept s).2.2.2.1]
    refine rowsListed_cleared fun k => ?_
    unfold MembershipUnit.listed
    rw [hpeer, hmember.1]
    split <;> rfl
  · rw [hpeer] at hb
    cases hb

/-- Every command keeps the agreement of the Axis Table and the Peer Table, from a sound Axis Table. -/
theorem State.Listing.after {s : State} (h : s.Listing) (htable : s.tableSound) (c : Instr) : (s.after c).Listing := by
  cases c with
  | reset x low => exact State.Listing.reset x low
  | markRecognised m => exact keeps_iteB (fun _ => h) fun _ => h.mark m
  | collisionJudgement => exact keeps_ite h fun _ => State.Listing.raiseDuplicateId (h.congr rfl rfl)
  | frameReceived frame =>
    simp only [State.after, exec, execFrameReceived]
    split
    · exact keeps_ite h fun _ => h.takeFrame _ frame
    all_goals exact h
  | noticeReceived frame => exact keeps_ite h fun _ => h.receiveNotice frame
  | close =>
    rcases s.after_close_cases with heq | ⟨-, heq⟩ <;> rw [heq]
    · exact h
    · exact State.Listing.admission (s := s.closed) (h.congr rfl rfl) _
  | voteCompletion =>
    simp only [State.after, exec, execVoteCompletion]
    split
    · next v hv => exact h.completeVote (htable.2.2.2 v hv).1
    · exact h
  | roundEnd j =>
    refine keeps_ite h fun _ => ?_
    simp only [State.roundEnd]
    refine State.Listing.congr (s := if _ then _ else _) ?_ rfl rfl
    split
    · next hl =>
      refine h.setSelf rfl rfl fun hb => ?_
      have := h.states.1 hb
      simp only [Bool.or_eq_true, Bool.and_eq_true, beq_iff_eq] at hl
      have hleaving : s.member.selfState = .leaving := by tauto
      simp [hleaving, SelfState.member] at this
    · exact h.congr rfl rfl
  | withdraw =>
    exact keeps_ite h fun _ => keeps_iteB (fun _ => h.unbindOwn (t := s.enterLeaving.answer .ok []) rfl rfl) fun _ => h.congr rfl rfl
  | rejoin =>
    exact keeps_ite h fun _ => keeps_iteB (fun _ => h.enterJoining.congr rfl rfl) fun _ => h.congr rfl rfl
  | restart => exact keeps_ite h fun _ => State.Listing.restart.congr rfl rfl
  | _ =>
    refine h.congr (congrArg AgreementEngine.rows ?_) ?_
    · exact (s.after_keeps _).engine (by simp [touches])
    · exact (s.after_keeps _).member (by simp [touches])

/-- Settles O54: every command keeps the engine sound under the plan in force, and the agreement of the Axis Table with the
Peer Table; a bit time touches neither. -/
theorem stepKeepsAxisTable : Obligations.StepKeepsAxisTable := by
  refine ⟨fun s t => step_keeps (fun _ _ h => h) (fun _ h => h) fun c _ h => h.after c, ?_⟩
  intro s t htable hpeers hlisted hstep
  have hs : s.Listing := ⟨htable.1, hpeers.1, (s.listedSound_iff.1 hlisted).1, (s.listedSound_iff.1 hlisted).2⟩
  have ht : t.Listing ∧ t.tableSound :=
    step_keeps (P := fun x => x.Listing ∧ x.tableSound) (fun _ _ h => ⟨h.1.congr rfl rfl, h.2⟩)
      (fun _ h => ⟨h.1.congr rfl rfl, h.2⟩) (fun c _ h => ⟨h.1.after h.2 c, h.2.after c⟩) ⟨hs, htable⟩ hstep
  exact ht.1.listedSound

end Sys2Proof.Machine
end

section
/-! SUPPORT. The Snapshot Store (R135, R137): publication, the pin and the releases keep each page in one role, and the statement
that every step does. -/

namespace Sys2Proof.Machine

/-- `State.rolesSound` of a store. -/
def SnapshotStore.ok (st : SnapshotStore) : Prop :=
  st.pages.length = 3 ∧ (∀ p ∈ st.pages, p.rows.length = 8) ∧
    (st.fill :: st.front.toList ++ st.spare).Perm [0, 1, 2] ∧ st.pin.map Pin.page ≠ some st.fill

theorem State.rolesSound_iff (s : State) : s.rolesSound ↔ s.store.ok := Iff.rfl

theorem SnapshotStore.initial_ok : SnapshotStore.initial.ok := by
  simp [SnapshotStore.ok, SnapshotStore.initial, Page.cleared]

theorem SnapshotStore.page_rows {st : SnapshotStore} (h : ∀ p ∈ st.pages, p.rows.length = 8) (n : PageNumber) :
    (st.page n).rows.length = 8 := by
  unfold SnapshotStore.page
  rw [List.getD_eq_getElem?_getD]
  cases hp : st.pages[n.val]? with
  | none => rfl
  | some p => exact h p (List.mem_of_getElem? hp)

/-- Replacing a page by one of eight rows leaves three pages of eight rows. -/
theorem SnapshotStore.setPage_rows {st : SnapshotStore} (h : ∀ p ∈ st.pages, p.rows.length = 8) (n : PageNumber)
    {pg : Page} (hpg : pg.rows.length = 8) : ∀ p ∈ (st.setPage n pg).pages, p.rows.length = 8 := by
  intro p hp
  rcases List.mem_or_eq_of_mem_set hp with hmem | rfl
  · exact h p hmem
  · exact hpg

theorem SnapshotStore.pinned_iff (st : SnapshotStore) (p : PageNumber) :
    st.pinned p = true ↔ st.pin.map Pin.page = some p := by
  simp [SnapshotStore.pinned]

/-- Of two different pages, one at least is not pinned: there is one pin (R135). -/
theorem SnapshotStore.exists_not_pinned (st : SnapshotStore) {p q : PageNumber} (hne : p ≠ q) :
    st.pinned p = false ∨ st.pinned q = false := by
  by_contra hboth
  rw [not_or, Bool.not_eq_false, Bool.not_eq_false, SnapshotStore.pinned_iff, SnapshotStore.pinned_iff] at hboth
  exact hne (Option.some.inj (hboth.1.symm.trans hboth.2))

/-- The next FILL page is a SPARE page that is not pinned, where the FRONT and two SPARE pages make up the three (R137). -/
theorem SnapshotStore.nextFill_spec {st : SnapshotStore} {front : PageNumber}
    (h : (front :: st.spare).Perm [0, 1, 2]) : st.nextFill front ∈ st.spare ∧ st.pinned (st.nextFill front) = false := by
  have hnodup : (front :: st.spare).Nodup := h.nodup_iff.2 (by decide)
  obtain ⟨hfront, hspare⟩ := List.nodup_cons.1 hnodup
  have hlen : st.spare.length = 2 := by simpa using h.length_eq
  obtain ⟨p, q, hpq⟩ := List.length_eq_two.1 hlen
  have hne : p ≠ q := by
    rw [hpq] at hspare
    simpa using hspare
  have hfound : ∃ x, (st.spare ++ [0, 1, 2]).find? (fun p => p != front && !st.pinned p) = some x := by
    rw [← Option.isSome_iff_exists, List.find?_isSome]
    have hmem (x : PageNumber) (hx : x ∈ st.spare) (hunpinned : st.pinned x = false) :
        ∃ y ∈ st.spare ++ [0, 1, 2], (y != front && !st.pinned y) = true := by
      refine ⟨x, List.mem_append_left _ hx, ?_⟩
      have hxf : x ≠ front := fun heq => hfront (heq ▸ hx)
      simp [hxf, hunpinned]
    rcases st.exists_not_pinned hne with hp | hq
    · exact hmem p (by simp [hpq]) hp
    · exact hmem q (by simp [hpq]) hq
  obtain ⟨x, hx⟩ := hfound
  have hnext : st.nextFill front = x := by simp [SnapshotStore.nextFill, hx]
  have hprop := List.find?_some hx
  simp only [Bool.and_eq_true, bne_iff_ne, Bool.not_eq_true'] at hprop
  rw [hnext]
  refine ⟨?_, hprop.2⟩
  have hpages : ∀ y : PageNumber, y ∈ ([0, 1, 2] : List PageNumber) := by decide
  have hall : x ∈ front :: st.spare := h.mem_iff.2 (hpages x)
  exact (List.mem_cons.1 hall).resolve_left hprop.1

/-- A publication keeps each page in one role and the pin off the FILL page (R135, R137). -/
theorem SnapshotStore.ok.publish {st : SnapshotStore} (h : st.ok) {pg : Page} (hpg : pg.rows.length = 8)
    (now : Instant) : (st.publish pg now).ok := by
  obtain ⟨hlen, hrows, hperm, -⟩ := h
  have hspares : (st.fill :: (st.spare ++ st.front.toList)).Perm [0, 1, 2] :=
    (List.perm_append_comm.cons _).trans hperm
  obtain ⟨hmem, hunpinned⟩ :=
    SnapshotStore.nextFill_spec (st := { st.setPage st.fill pg with spare := st.spare ++ st.front.toList }) hspares
  refine ⟨by simpa using hlen, ?_, ?_, ?_⟩
  · have hset := SnapshotStore.setPage_rows hrows st.fill hpg
    exact SnapshotStore.setPage_rows hset _ (SnapshotStore.page_rows hset _)
  · have hnodup := (List.nodup_cons.1 (hspares.nodup_iff.2 (by decide))).2
    have hfilter := List.perm_cons_erase hmem
    rw [hnodup.erase_eq_filter] at hfilter
    exact (List.Perm.swap _ _ _).trans ((hfilter.symm.cons _).trans hspares)
  · rw [SnapshotStore.publish_pin]
    intro hpin
    have hpinned := (SnapshotStore.pinned_iff _ _).2 hpin
    exact absurd (hpinned.symm.trans hunpinned) (by decide)

/-- The pin set on the FRONT page is off the FILL page. -/
theorem SnapshotStore.ok.pinFront {st : SnapshotStore} (h : st.ok) {p : PageNumber} (hp : st.front = some p)
    (kind : PinKind) : SnapshotStore.ok { st with pin := some ⟨p, kind⟩ } := by
  obtain ⟨hlen, hrows, hperm, -⟩ := h
  refine ⟨hlen, hrows, hperm, fun heq => ?_⟩
  obtain rfl : p = st.fill := Option.some.inj heq
  have hnodup : (st.fill :: (st.front.toList ++ st.spare)).Nodup := hperm.nodup_iff.2 (by decide)
  exact (List.nodup_cons.1 hnodup).1 (List.mem_append_left _ (by simp [hp]))

theorem SnapshotStore.ok.unpin {st : SnapshotStore} (h : st.ok) : SnapshotStore.ok { st with pin := none } := by
  obtain ⟨hlen, hrows, hperm, -⟩ := h
  exact ⟨hlen, hrows, hperm, by simp⟩

theorem SnapshotStore.ok.releaseTransaction {st : SnapshotStore} (h : st.ok) : st.releaseTransaction.ok := by
  unfold SnapshotStore.releaseTransaction
  split
  · exact h.unpin
  · exact h

/-- The Snapshot Store after a completion: the vote's page published in the self states that publish (R137, R162). -/
theorem State.completeVote_store (s : State) (v : VoteInFlight) : (s.completeVote v).store =
    if s.member.selfState.votes then s.store.publish (s.publishedPage (v.voted s.plan) v.epoch) s.clock
    else s.store := by
  simp only [State.completeVote]
  repeat' split
  all_goals simp

/-- Every command keeps the page roles, from a vote in flight of eight rows. -/
theorem SnapshotStore.ok.after {s : State} (h : s.store.ok) (htable : s.tableSound) (c : Instr) :
    (s.after c).store.ok := by
  cases c with
  | reset x low => exact SnapshotStore.initial_ok
  | voteCompletion =>
    simp only [State.after, exec, execVoteCompletion]
    split
    · next v hv =>
      rw [State.completeVote_store]
      split
      · refine h.publish ?_ s.clock
        simpa [State.publishedPage, VoteInFlight.voted] using (htable.2.2.2 v hv).1
      · exact h
    · exact h
  | epsPulseEnd => exact h
  | csnRise => exact keeps_ite (P := fun x => x.store.ok) h fun _ => h.releaseTransaction
  | pin =>
    refine keeps_ite (P := fun x => x.store.ok) h fun _ => ?_
    unfold State.pinFront
    split
    · exact h
    · next p hp => exact h.pinFront hp .held
  | unpin => exact keeps_ite (P := fun x => x.store.ok) h fun _ => h.unpin
  | readPage =>
    refine keeps_ite (P := fun x => x.store.ok) h fun _ => ?_
    unfold State.readPage
    split
    · exact h
    · next p _ hp => exact h.pinFront hp .transaction
    · exact h
  | restart =>
    exact keeps_ite (P := fun x => x.store.ok) h fun _ => by simpa using SnapshotStore.initial_ok
  | _ => rwa [(s.after_keeps _).store (by simp [touches])]

/-- Settles O55: the roles are kept by publication, pin and release, and the vote's rows are eight. -/
theorem stepKeepsPageRoles : Obligations.StepKeepsPageRoles := by
  intro s t htable hroles hstep
  exact (step_keeps (P := fun x => x.store.ok ∧ x.tableSound) (fun _ _ h => h) (fun _ h => h)
    (fun c _ h => ⟨h.1.after h.2 c, h.2.after c⟩) ⟨hroles, htable⟩ hstep).1

end Sys2Proof.Machine
end

section
/-! SUPPORT. The mark deadline and the line: what arming makes of them (R47, R48), what a mark makes of the timer, the line and the
members (R46), and the statement that every step keeps the deadline as armed and LOCKOUT silent. -/

namespace Sys2Proof.Machine

/-! ### The deadline (R47, R48) -/

/-- The deadline that an arming gives: that of the last origin, where there is one. -/
def State.armed (s : State) : Option Instant := (s.timer.origin.map s.deadlineFrom).or s.timer.deadline

@[simp] theorem State.armDeadline_timer (s : State) : s.armDeadline.timer = { s.timer with deadline := s.armed } := by
  unfold State.armDeadline State.armed
  cases ho : s.timer.origin with
  | none => rfl
  | some o => simp only; split <;> rfl

/-- A deadline that is past when it is armed makes the station drive at once; nothing else of the line changes (R47). -/
theorem State.armDeadline_line (s : State) : s.armDeadline.line =
    if ∃ o ∈ s.timer.origin, s.deadlineFrom o ≤ s.clock then s.line.drive false s.clock else s.line := by
  unfold State.armDeadline
  cases ho : s.timer.origin with
  | none => simp
  | some o =>
    by_cases hd : s.deadlineFrom o ≤ s.clock <;> simp [hd]

@[simp] theorem LineController.drive_notices (l : LineController) (cold : Bool) (now : Instant) :
    (l.drive cold now).notices = l.notices := by
  rcases l.drive_cases cold now with ⟨-, h⟩ | ⟨-, h⟩ <;> rw [h]

@[simp] theorem State.armDeadline_notices (s : State) : s.armDeadline.line.notices = s.line.notices := by
  rw [State.armDeadline_line]
  split <;> simp

theorem State.deadlineFrom_of_strapped {s t : State} (h : t.strapped = s.strapped) : t.deadlineFrom = s.deadlineFrom := by
  have hown : t.member.ownStation = s.member.ownStation :=
    congrArg (fun x : PlanCode × Station × Axis => x.2.1) h
  funext o
  simp only [State.deadlineFrom, State.plan_eq_of_strapped h, hown]

theorem State.armed_of_strapped {s t : State} (h : t.strapped = s.strapped) (ho : t.timer.origin = s.timer.origin)
    (hd : t.timer.deadline = s.timer.deadline) : t.armed = s.armed := by
  simp only [State.armed, State.deadlineFrom_of_strapped h, ho, hd]

@[simp] theorem State.realign_strapped (s : State) : s.realign.strapped = s.strapped := rfl

@[simp] theorem State.enterJoining_timer (s : State) :
    s.enterJoining.timer = { s.timer with deadline := s.armed } := by
  simp only [State.enterJoining, State.armDeadline_timer, State.abortTest_timer, State.realign_timer]
  rw [State.armed_of_strapped (s := s) (by simp only [State.abortTest_strapped, State.realign_strapped]; rfl)
    (by simp) (by simp)]

@[simp] theorem State.enterJoining_notices (s : State) : s.enterJoining.line.notices = s.line.notices := by
  simp [State.enterJoining]

@[simp] theorem State.enterLockout_timer (s : State) : s.enterLockout.timer =
    { s.timer with position := .none, roundOpen := false, deadline := none } := by
  simp only [State.enterLockout, State.abortTest_timer]
  split <;> rfl

@[simp] theorem State.enterLockout_line (s : State) : s.enterLockout.line =
    { s.line with notices := [], noticeSend := .idle, receiver := .off, awaiting := false } := by
  simp only [State.enterLockout, State.abortTest_line]
  split <;> rfl

/-! ### The deadline as R48 arms it, from the self state, the origin and the strapped values -/

/-- The deadline R48 gives for a self state and an origin. -/
def State.dueDeadline (s : State) (self : SelfState) (origin : Option Instant) : Option Instant :=
  if self.sends then origin.map s.deadlineFrom else none

theorem State.deadlineSound_iff (s : State) :
    s.deadlineSound ↔ s.timer.deadline = s.dueDeadline s.member.selfState s.timer.origin := Iff.rfl

theorem State.dueDeadline_of_strapped {s t : State} (h : t.strapped = s.strapped) : t.dueDeadline = s.dueDeadline := by
  funext self origin
  simp only [State.dueDeadline, State.deadlineFrom_of_strapped h]

/-- The deadline reads the self state, the origin and the strapped values alone. -/
theorem State.deadlineSound.congr {s t : State} (h : s.deadlineSound) (hs : t.strapped = s.strapped)
    (hd : t.timer.deadline = s.timer.deadline) (ho : t.timer.origin = s.timer.origin)
    (hself : t.member.selfState.sends = s.member.selfState.sends) : t.deadlineSound := by
  rw [State.deadlineSound_iff] at h ⊢
  rw [hd, State.dueDeadline_of_strapped hs, ho, h]
  simp only [State.dueDeadline, hself]

/-- Without an origin no deadline is armed. -/
theorem State.deadlineSound.none_of_no_origin {s : State} (h : s.deadlineSound) (ho : s.timer.origin = none) :
    s.timer.deadline = none := by
  rw [State.deadlineSound_iff] at h
  rw [h, ho]
  unfold State.dueDeadline
  split <;> rfl

/-- A disarmed deadline is right where the self state arms none. -/
theorem State.deadlineSound_of_disarmed {s : State} (hd : s.timer.deadline = none)
    (hself : s.member.selfState.sends = false) : s.deadlineSound := by
  rw [State.deadlineSound_iff, hd, State.dueDeadline, hself]
  rfl

theorem State.armed_eq {s : State} (h : s.timer.origin = none → s.timer.deadline = none) :
    s.armed = s.timer.origin.map s.deadlineFrom := by
  unfold State.armed
  cases ho : s.timer.origin with
  | none => exact h ho
  | some o => rfl

theorem State.deadlineSound.enterJoining {s : State} (h : s.deadlineSound) : s.enterJoining.deadlineSound := by
  rw [State.deadlineSound_iff, State.dueDeadline_of_strapped s.enterJoining_strapped, State.enterJoining_timer,
    State.enterJoining_member]
  exact State.armed_eq h.none_of_no_origin

theorem State.deadlineSound_enterLockout (s : State) : s.enterLockout.deadlineSound :=
  State.deadlineSound_of_disarmed (by simp) (by simp [SelfState.sends])

theorem State.deadlineSound.raiseDuplicateId {s : State} (h : s.deadlineSound) : s.raiseDuplicateId.deadlineSound := by
  unfold State.raiseDuplicateId
  split
  · exact h
  · exact (State.deadlineSound_enterLockout (s.setFault .duplicateId)).congr rfl rfl rfl rfl

theorem State.deadlineSound.testSelf {s : State} (h : s.deadlineSound) (before : SelfState) (sent adopted : Bool) :
    (s.testSelf before sent adopted).deadlineSound := by
  have htested := s.testSelf_tested before sent adopted
  generalize s.testSelf before sent adopted = t at htested
  cases htested with
  | same => exact h
  | mismatch =>
    exact (State.deadlineSound_enterLockout ((s.countMismatch.setListenRun 0).setFault .planMismatch)).congr
      rfl rfl rfl rfl
  | joins =>
    have hcounted : s.countMismatch.deadlineSound := h.congr rfl rfl rfl rfl
    exact hcounted.enterJoining.congr rfl rfl rfl rfl
  | fails | falls => exact State.deadlineSound_of_disarmed rfl rfl
  | activates hst => exact h.congr rfl rfl rfl (by rw [hst]; rfl)
  | listens | counts | unheard => exact h.congr rfl rfl rfl rfl

theorem State.deadlineSound.adopt {s : State} (h : s.deadlineSound) (e : Option Epoch) :
    (s.adopt e).deadlineSound := by
  cases e with
  | none => exact h
  | some e =>
    have hcounted : State.deadlineSound (({ s with timer.epoch := e } : State).emit [evPlain .resync e]) :=
      h.congr rfl rfl rfl rfl
    exact keeps_iteB (fun _ => hcounted.enterJoining.congr rfl rfl rfl rfl) fun _ => hcounted

@[simp] theorem State.hearPeer_selfState (s : State) (k : Station) (f : FrameRecord) :
    (s.hearPeer k f).member.selfState = s.member.selfState := by
  rw [(s.hearPeer_kept k f).1]
  rfl

@[simp] theorem State.missPeer_selfState (s : State) (k : Station) :
    (s.missPeer k).member.selfState = s.member.selfState := by
  simp only [State.missPeer]
  repeat' split
  all_goals rfl

@[simp] theorem State.updatePeer_selfState (s : State) (k : Station) :
    (s.updatePeer k).member.selfState = s.member.selfState := by
  unfold State.updatePeer
  repeat' split
  all_goals simp

@[simp] theorem State.updatePeers_selfState (s : State) : s.updatePeers.member.selfState = s.member.selfState := by
  unfold State.updatePeers
  exact foldl_frame (g := fun x : State => x.member.selfState) State.updatePeer_selfState s _

@[simp] theorem State.claim_selfState (s : State) (k : Station) :
    (s.claim k).member.selfState = s.member.selfState := by
  have hown : s.claimOwn.member.selfState = s.member.selfState := by
    rw [State.claimOwn_eq]
    exact (s.member.answered_kept _).1
  have hpeer : (s.claimPeer k).member.selfState = s.member.selfState := by
    rw [State.claimPeer_eq]
    rfl
  unfold State.claim
  split
  · split
    · exact hown
    · rfl
  · exact keeps_ite (P := fun x : State => x.member.selfState = s.member.selfState) rfl fun _ => hpeer

@[simp] theorem State.claims_selfState (s : State) : s.claims.member.selfState = s.member.selfState := by
  unfold State.claims
  exact foldl_frame (g := fun x : State => x.member.selfState) State.claim_selfState s _

theorem State.deadlineSound.admission {s : State} (h : s.deadlineSound) (sent : Bool) :
    (s.admission sent).deadlineSound := by
  have hpeers : (s.adopt (s.adoption sent)).updatePeers.deadlineSound :=
    (h.adopt (s.adoption sent)).congr (by simp) (by simp) (by simp) (by simp)
  have hself := hpeers.testSelf s.member.selfState sent (s.adoption sent).isSome
  have hdeliver (x : State) (l : List AdmittedSample) : (x.deliver l).strapped = x.strapped := rfl
  simp only [State.admission]
  split
  · exact hself.congr (by simp [hdeliver]) (by simp) (by simp) (by simp)
  · exact hself

theorem State.takeNotice_selfState (s : State) (f : NoticeFields) :
    (s.takeNotice f).member.selfState = s.member.selfState := by
  simp only [State.takeNotice, State.takeLeave]
  repeat' split
  all_goals rfl

/-! ### A mark -/

/-- The deadline that a mark leaves before a cold start's entry to JOINING: none where it completes a withdrawal, else armed
from the new origin where the self state arms it (R48, R97). -/
def State.markDeadline (s : State) : Option Instant :=
  if s.markTakesLeave then none
  else if s.member.selfState.sends then some (s.deadlineFrom (s.clock - 12)) else s.timer.deadline

theorem State.markTakesLeave_leaving {s : State} (h : s.markTakesLeave = true) : s.member.selfState = .leaving := by
  simp only [State.markTakesLeave, Bool.and_eq_true, beq_iff_eq] at h
  exact h.2

/-- A mark up to the sensor's steps, by what it makes of the self state and the deadline. -/
theorem State.markSensed_eq (s : State) (m : MarkInputs) : s.markSensed m = State.markSensor (m := m)
    (if s.markTakesLeave then (({ s with freeCount := s.withdrawnAtMark.2 } : State).markTimed m.drove).enterWithdrawn
      else if s.member.selfState.sends then (({ s with freeCount := s.withdrawnAtMark.2 } : State).markTimed m.drove).armDeadline
      else ({ s with freeCount := s.withdrawnAtMark.2 } : State).markTimed m.drove) := by
  have hl : ({ s with freeCount := s.withdrawnAtMark.2 } : State).markTakesLeave = s.markTakesLeave := rfl
  rw [State.markSensed, State.markLineAndTimer_eq, State.armedIfSends, State.withdrawnIf, hl]
  cases s.markTakesLeave <;> rfl

/-- The timer at a mark (R46, R48, R52, R57, R58). -/
theorem State.markSensed_timer (s : State) (m : MarkInputs) : (s.markSensed m).timer = { s.timer with
    epoch := s.markEpoch
    markSeen := true
    origin := some (s.clock - 12)
    position := if s.member.selfState = SelfState.lockout then .none else .mark
    roundOpen := false
    deadline := s.markDeadline
    listenTimer := 0
    epochLength := s.markLength
    selfMarked := (m.drove || s.line.markDrive.isDriving) && s.member.selfState != SelfState.lockout } := by
  rw [State.markSensed_eq, State.markSensor_timer, State.markDeadline]
  split
  · rfl
  · split
    · rw [State.armDeadline_timer]; rfl
    · rfl

/-- A deadline armed at a mark lies ahead, so no drive begins. -/
theorem State.armDeadline_line_of_mark {s : State} (h : s.timer.origin = some (s.clock - 12)) :
    s.armDeadline.line = s.line := by
  rw [State.armDeadline_line, if_neg]
  rintro ⟨o, ho, hdue⟩
  obtain rfl : s.clock - 12 = o := Option.some.inj (h.symm.trans ho)
  have hplans : ∀ p : PlanCode, 2500 ≤ (planTable p).period := by decide
  have hperiod : 2500 ≤ s.plan.period := hplans _
  unfold State.deadlineFrom Instant at hdue
  omega

/-- The line at a mark (R46, R60 to R65). -/
theorem State.markSensed_line (s : State) (m : MarkInputs) : (s.markSensed m).line =
    s.line.atMark (s.timer.position.noClose || s.member.selfState == SelfState.lockout) := by
  rw [State.markSensed_eq, State.markSensor_line]
  split
  · rfl
  · split
    · exact State.armDeadline_line_of_mark rfl
    · rfl

/-- The members at a mark: a withdrawal completed, or as they were (R97). -/
theorem State.markSensed_member (s : State) (m : MarkInputs) : (s.markSensed m).member =
    if s.markTakesLeave then { s.member with selfState := .withdrawn } else s.member := by
  rw [State.markSensed_eq, State.markSensor_member]
  split
  · rfl
  · split
    · rw [State.armDeadline_member]; rfl
    · rfl

/-- The blocks that the line's and the timer's part of a mark leaves alone, and the sensor's steps 1 to 7. -/
theorem State.markSensed_kept (s : State) (m : MarkInputs) :
    (s.markSensed m).clock = s.clock ∧ (s.markSensed m).engine = s.engine ∧ (s.markSensed m).faults = s.faults ∧
      (s.markSensed m).store = s.store ∧ (s.markSensed m).port = s.port ∧
      (s.markSensed m).emulator = s.emulator ∧ (s.markSensed m).tests = s.tests ∧
      (s.markSensed m).sensor = s.sensor.mark m s.tests.injected s.tests.samplesUnderTest := by
  simp [State.markSensed]

theorem State.markTested_kept (s : State) (m : MarkInputs) :
    (s.markTested m).clock = s.clock ∧ (s.markTested m).timer = (s.markSensed m).timer ∧
      (s.markTested m).member = (s.markSensed m).member ∧ (s.markTested m).store = s.store ∧
      (s.markTested m).port = s.port := by
  simp [State.markTested, State.markSensed_kept]

theorem State.mark_strapped_tested (s : State) (m : MarkInputs) : (s.markTested m).strapped = s.strapped := by
  have hm := s.markSensed_member m
  have ht := s.markSensed_timer m
  obtain ⟨-, htimer, hmember, -⟩ := s.markTested_kept m
  simp only [State.strapped, htimer, hmember, hm, ht]
  split <;> rfl

theorem State.coldStarts_iff (s : State) :
    s.coldStarts = true ↔ s.line.markDrive.isColdStart = true ∧ s.member.selfState = .listen := by
  simp [State.coldStarts]

theorem State.deadlineSound.mark {s : State} (h : s.deadlineSound) (m : MarkInputs) : (s.mark m).deadlineSound := by
  have hsensed : (s.markTested m).deadlineSound := by
    obtain ⟨-, htimer, hmember, -⟩ := s.markTested_kept m
    rw [State.deadlineSound_iff] at h ⊢
    rw [State.dueDeadline_of_strapped (s.mark_strapped_tested m), htimer, hmember, s.markSensed_timer,
      s.markSensed_member, State.markDeadline]
    by_cases hl : s.markTakesLeave = true
    · simp [hl, State.dueDeadline, SelfState.sends]
    · by_cases hs : s.member.selfState.sends = true
      · simp [hl, hs, State.dueDeadline]
      · simpa [hl, hs, State.dueDeadline] using h
  rw [State.mark_eq]
  have hjoined : (s.markJoined m).deadlineSound := by
    unfold State.markJoined
    split
    · exact hsensed.enterJoining
    · exact hsensed
  exact hjoined.congr (State.emitTogether_strapped ..) (by rw [State.emitTogether_timer])
    (by rw [State.emitTogether_timer]) (by rw [State.emitTogether_member])

/-! ### LOCKOUT is silent (R52, R100, R115) -/

/-- A block posts FAULT in ACTIVE alone (R132). -/
theorem State.postFaultChange_of_not_active {s : State} (h : s.member.selfState ≠ .active) (before : FaultSet) :
    s.postFaultChange before = s := if_neg fun hc => h hc.2

/-- A test's end posts in ACTIVE alone (R132, R169). -/
theorem State.endTest_line_of_not_active {s : State} (h : s.member.selfState ≠ .active) (c : TestCode)
    (o : TestOutcome) : (s.endTest c o).line = s.line := by
  have hpost : (s.finishTest c o).postTestEnd c o = s.finishTest c o :=
    if_neg fun hc => h (by simpa using hc.2)
  have hfail : (s.finishTest c o).failSelfTest.line = s.line := by
    unfold State.failSelfTest
    rw [State.postFaultChange_of_not_active (by simpa using h)]
    simp
  cases o <;> simp [State.endTest, hpost, hfail]

theorem State.testAtMark_line_of_not_active {s : State} (h : s.member.selfState ≠ .active) (m : MarkInputs) :
    (s.testAtMark m).line = s.line := by
  unfold State.testAtMark
  repeat' split
  · rfl
  · rfl
  · exact State.endTest_line_of_not_active h _ _
  · simp

theorem State.holdSensorFaults_line_of_not_active {s : State} (h : s.member.selfState ≠ .active) :
    s.holdSensorFaults.line = s.line := by
  unfold State.holdSensorFaults
  rw [State.postFaultChange_of_not_active (by simpa using h)]

theorem State.markTested_line_of_not_active {s : State} (h : s.member.selfState ≠ .active) (m : MarkInputs) :
    (s.markTested m).line = (s.markSensed m).line := by
  have hs : (s.markSensed m).member.selfState ≠ .active := by
    rw [s.markSensed_member]
    split
    · simp
    · exact h
  simp only [State.markTested, State.markTestAndFaults]
  repeat' split
  · rw [State.holdSensorFaults_line_of_not_active (by simpa using hs), State.testAtMark_line_of_not_active (by exact hs)]
  · rw [State.testAtMark_line_of_not_active (by simpa using hs), State.holdSensorFaults_line_of_not_active (by exact hs)]
  · rw [State.holdSensorFaults_line_of_not_active (by simpa using hs), State.testAtMark_line_of_not_active hs]

theorem State.mark_of_lockout {s : State} (h : s.member.selfState = .lockout) (m : MarkInputs) :
    (s.mark m).timer = (s.markSensed m).timer ∧ (s.mark m).line = (s.markSensed m).line := by
  have hcold : s.coldStarts = false := by simp [State.coldStarts, h]
  rw [State.mark_eq, State.emitTogether_timer, State.emitTogether_line]
  simp only [State.markJoined, hcold, Bool.false_eq_true, if_false]
  exact ⟨(s.markTested_kept m).2.1, State.markTested_line_of_not_active (by simp [h]) m⟩

theorem takeCompleted_nil : takeCompleted [] = [] := rfl

/-- LOCKOUT is silent at the timer and the line. -/
theorem State.lockoutSound.congr {s t : State} (h : s.lockoutSound)
    (hself : t.member.selfState = .lockout → s.member.selfState = .lockout)
    (hp : t.timer.position = s.timer.position) (hr : t.timer.roundOpen = s.timer.roundOpen)
    (hn : s.line.notices = [] → t.line.notices = []) : t.lockoutSound := by
  intro ht
  obtain ⟨h1, h2, h3⟩ := h (hself ht)
  exact ⟨hp.trans h1, hr.trans h2, hn h3⟩

theorem State.lockoutSound_of_ne {s : State} (h : s.member.selfState ≠ .lockout) : s.lockoutSound := fun hs => absurd hs h

theorem State.lockoutSound_enterLockout (s : State) : s.enterLockout.lockoutSound := fun _ => by simp

theorem State.lockoutSound.raiseDuplicateId {s : State} (h : s.lockoutSound) : s.raiseDuplicateId.lockoutSound := by
  unfold State.raiseDuplicateId
  split
  · exact h
  · exact (State.lockoutSound_enterLockout (s.setFault .duplicateId)).congr (fun h => h) rfl rfl fun h => h

theorem State.drawn_iff (s : State) : s.drawn = true ↔ s.timer.markSeen = true ∧ s.member.selfState ≠ .lockout := by
  simp [State.drawn]

theorem State.lockoutSound.mark {s : State} (h : s.lockoutSound) (m : MarkInputs) : (s.mark m).lockoutSound := by
  intro ht
  have hs : s.member.selfState = .lockout := by
    rw [State.mark_eq, State.emitTogether_member] at ht
    unfold State.markJoined at ht
    split at ht
    · simp at ht
    · rw [(s.markTested_kept m).2.2.1, s.markSensed_member] at ht
      split at ht
      · simp at ht
      · exact ht
  obtain ⟨htimer, hline⟩ := State.mark_of_lockout hs m
  obtain ⟨-, -, hnone⟩ := h hs
  rw [htimer, hline, s.markSensed_timer, s.markSensed_line]
  refine ⟨if_pos hs, rfl, ?_⟩
  simp only [LineController.atMark, hnone]
  split <;> rfl

theorem State.lockoutSound.testSelf {s : State} (h : s.member.selfState ≠ .lockout) (before : SelfState)
    (sent adopted : Bool) : (s.testSelf before sent adopted).lockoutSound := by
  have htested := s.testSelf_tested before sent adopted
  generalize s.testSelf before sent adopted = t at htested
  cases htested with
  | mismatch =>
    exact (State.lockoutSound_enterLockout ((s.countMismatch.setListenRun 0).setFault .planMismatch)).congr
      (fun h => h) rfl rfl fun h => h
  | joins => exact State.lockoutSound_of_ne (by simp [State.join])
  | fails | falls | activates => exact State.lockoutSound_of_ne nofun
  | same | listens | counts | unheard => exact State.lockoutSound_of_ne h

theorem State.lockoutSound.admission {s : State} (h : s.member.selfState ≠ .lockout) (sent : Bool) :
    (s.admission sent).lockoutSound := by
  have hadopt : (s.adopt (s.adoption sent)).updatePeers.member.selfState ≠ .lockout := by
    rw [State.updatePeers_selfState]
    cases s.adoption sent with
    | none => exact h
    | some e =>
      simp only [State.adopt]
      split
      · simp
      · exact h
  have hself := State.lockoutSound.testSelf hadopt s.member.selfState sent (s.adoption sent).isSome
  simp only [State.admission]
  split
  · exact hself.congr (by simp) (by simp) (by simp) (by simp)
  · exact hself

/-! ### Every command -/

/-- The timer and the self state of a round's end: a withdrawal completed disarms the deadline (R97). -/
theorem State.roundEnd_cases (s : State) (j : RoundNumber) :
    (s.roundEnd j).timer = { s.timer with position := if j = 3 then .idle else .round j, roundOpen := false } ∧
      (s.roundEnd j).member = s.member ∨
    s.member.selfState = .leaving ∧
      (s.roundEnd j).timer = { s.timer with
        position := if j = 3 then .idle else .round j, roundOpen := false, deadline := none } ∧
      (s.roundEnd j).member = { s.member with selfState := .withdrawn } := by
  simp only [State.roundEnd, State.emit_timer, State.emit_member]
  split
  · next hl =>
    simp only [Bool.or_eq_true, Bool.and_eq_true, beq_iff_eq] at hl
    exact .inr ⟨by tauto, rfl, rfl⟩
  · exact .inl ⟨rfl, rfl⟩

theorem State.restart_timer_self (s : State) : s.restart.timer.deadline = none ∧ s.restart.timer.position = .none ∧
    s.restart.timer.roundOpen = false ∧ s.restart.line.notices = [] ∧
    s.restart.member.selfState = if s.outOfRange then .lockout else .listen := ⟨rfl, rfl, rfl, rfl, rfl⟩

theorem State.deadlineSound.of_untouched {s : State} (h : s.deadlineSound) {c : Instr} (ht : .timer ∉ touches c)
    (hm : .member ∉ touches c) : (s.after c).deadlineSound := by
  have htimer := (s.after_keeps c).timer ht
  have hmember := (s.after_keeps c).member hm
  exact h.congr (State.strapped_eq_of_blocks htimer hmember) (by rw [htimer]) (by rw [htimer]) (by rw [hmember])

theorem State.deadlineSound.after {s : State} (h : s.deadlineSound) (c : Instr) : (s.after c).deadlineSound := by
  by_cases hreset : ∃ x low, c = .reset x low
  · obtain ⟨x, low, rfl⟩ := hreset
    refine State.deadlineSound_of_disarmed rfl ?_
    simp only [State.after, exec, execReset, State.atReset]
    split <;> rfl
  cases c with
  | reset x low => exact absurd ⟨x, low, rfl⟩ hreset
  | markRecognised m => exact keeps_iteB (fun _ => h) fun _ => h.mark m
  | slotBegin k =>
    refine keeps_ite h fun _ => h.congr (by simp) ?_ ?_ (by simp) <;>
    · simp only [State.slotBegin]
      repeat' split
      all_goals rfl
  | collisionJudgement =>
    exact keeps_ite h fun _ => State.deadlineSound.raiseDuplicateId (h.congr rfl rfl rfl rfl)
  | frameReceived frame =>
    simp only [State.after, exec, execFrameReceived]
    split
    · refine keeps_ite h fun _ => ?_
      simp only [State.takeFrame]
      split
      · exact State.deadlineSound.raiseDuplicateId (h.congr rfl rfl rfl rfl)
      · exact h.congr rfl rfl rfl rfl
    all_goals exact h
  | close =>
    rcases s.after_close_cases with heq | ⟨-, heq⟩ <;> rw [heq]
    · exact h
    · exact State.deadlineSound.admission (s := s.closed) (h.congr rfl rfl rfl rfl) _
  | roundBegin j =>
    refine keeps_ite h fun _ => h.congr (by simp) ?_ ?_ (by simp) <;>
    · simp only [State.roundBegin]
      repeat' split
      all_goals rfl
  | roundEnd j =>
    refine keeps_ite h fun _ => ?_
    rcases s.roundEnd_cases j with ⟨ht, hm⟩ | ⟨-, ht, hm⟩
    · exact h.congr (by simp) (by rw [ht]) (by rw [ht]) (by rw [hm])
    · exact State.deadlineSound_of_disarmed (by rw [ht]) (by rw [hm]; rfl)
  | noticeReceived frame =>
    refine keeps_ite h fun _ => ?_
    have hsettled : State.deadlineSound { s with line.receiver := .settled } := h.congr rfl rfl rfl rfl
    simp only [State.receiveNotice]
    repeat' split
    · exact hsettled.raiseDuplicateId
    · exact hsettled.congr (by simp) (by simp) (by simp) (by simp [State.takeNotice_selfState])
    · exact hsettled
  | withdraw =>
    refine keeps_ite h fun _ => keeps_iteB (fun hm => ?_) fun _ => h.congr rfl rfl rfl rfl
    refine h.congr rfl rfl rfl ?_
    rcases (SelfState.member_iff _).1 hm with hs | hs <;> rw [hs] <;> rfl
  | rejoin =>
    refine keeps_ite h fun _ => keeps_iteB (fun _ => ?_) fun _ => h.congr rfl rfl rfl rfl
    exact h.enterJoining.congr rfl rfl rfl rfl
  | restart =>
    obtain ⟨hd, -, -, -, hself⟩ := s.restart_timer_self
    refine keeps_ite h fun _ => State.deadlineSound_of_disarmed (by rw [State.answer_timer, hd]) ?_
    rw [State.answer_member, hself]
    split <;> rfl
  | _ => exact h.of_untouched (by simp [touches]) (by simp [touches])

theorem State.lockoutSound.of_untouched {s : State} (h : s.lockoutSound) {c : Instr} (hl : .line ∉ touches c)
    (ht : .timer ∉ touches c) (hm : .member ∉ touches c) : (s.after c).lockoutSound := by
  have hline := (s.after_keeps c).line hl
  have htimer := (s.after_keeps c).timer ht
  have hmember := (s.after_keeps c).member hm
  exact h.congr (by rw [hmember]; exact id) (by rw [htimer]) (by rw [htimer]) (by rw [hline]; exact id)

/-- A command that changes nothing of the line but other fields than the queue keeps LOCKOUT silent. -/
theorem State.lockoutSound.of_notices {s t : State} (h : s.lockoutSound) (ht : t.timer = s.timer)
    (hm : t.member = s.member) (hn : s.line.notices = [] → t.line.notices = []) : t.lockoutSound :=
  h.congr (by rw [hm]; exact id) (by rw [ht]) (by rw [ht]) hn

/-- A vote's completion posts in ACTIVE alone. -/
theorem State.completeVote_line_of_not_active {s : State} (h : s.member.selfState ≠ .active) (v : VoteInFlight) :
    (s.completeVote v).line = s.line := by
  have hend (x : State) (hx : x.member.selfState ≠ .active) : x.endVoteTest.line = x.line := by
    rw [State.endVoteTest, State.emit_line, State.endTest_line_of_not_active hx]
  have hpublished (x : State) (rows : List Row) (e : Epoch) (b : Bool) :
      (if b = true then x.publish rows e else x).line = x.line ∧
        (if b = true then x.publish rows e else x).member = x.member := by
    cases b <;> simp
  simp only [State.completeVote]
  split
  · rw [hend _ (by simpa [hpublished] using h)]
    simp [hpublished]
  · simp [hpublished]

theorem State.lockoutSound.after {s : State} (h : s.lockoutSound) (c : Instr) : (s.after c).lockoutSound := by
  have hdrawn (hd : s.drawn = true) : s.member.selfState ≠ .lockout := (s.drawn_iff.1 hd).2
  cases c with
  | reset x low => exact fun _ => ⟨rfl, rfl, rfl⟩
  | markRecognised m => exact keeps_iteB (fun _ => h) fun _ => h.mark m
  | slotBegin k =>
    refine keeps_ite h fun hdue => State.lockoutSound_of_ne ?_
    simp only [State.slotDue, Bool.and_eq_true] at hdue
    rw [(s.slotBegin_kept k).2.1]
    exact hdrawn hdue.1.1.1.1
  | collisionJudgement => exact keeps_ite h fun _ => State.lockoutSound.raiseDuplicateId h
  | frameReceived frame =>
    simp only [State.after, exec, execFrameReceived]
    split
    · refine keeps_ite h fun _ => ?_
      simp only [State.takeFrame]
      split
      · exact State.lockoutSound.raiseDuplicateId h
      · exact h
    all_goals exact h
  | close =>
    rcases s.after_close_cases with heq | ⟨hr, heq⟩ <;> rw [heq]
    · exact h
    · exact State.lockoutSound.admission (s := s.closed) (hdrawn hr.1) _
  | voteCompletion =>
    simp only [State.after, exec, execVoteCompletion]
    split
    · next v hv =>
      by_cases ha : s.member.selfState = .active
      · exact State.lockoutSound_of_ne (by simp [ha])
      · exact h.of_notices (by simp) (by simp) (by rw [State.completeVote_line_of_not_active ha]; exact id)
    · exact h
  | roundBegin j =>
    refine keeps_ite h fun hdue => State.lockoutSound_of_ne ?_
    simp only [State.roundDue, Bool.and_eq_true] at hdue
    rw [(s.roundBegin_kept j).2.1]
    exact hdrawn hdue.1.1.1.1
  | roundEnd j =>
    refine keeps_ite h fun hdue => State.lockoutSound_of_ne ?_
    rcases s.roundEnd_cases j with ⟨-, hm⟩ | ⟨-, -, hm⟩
    · rw [hm]; exact hdrawn hdue.1
    · rw [hm]; nofun
  | noticeCollision => exact keeps_ite h fun _ => h.of_notices rfl rfl fun hn => by simp [hn, dropFlight]
  | noticeReceived frame =>
    refine keeps_ite h fun hdue => ?_
    simp only [State.receiveNotice]
    repeat' split
    · exact State.lockoutSound.raiseDuplicateId h
    · exact State.lockoutSound_of_ne (by rw [State.takeNotice_selfState]; exact hdrawn hdue.1)
    · exact h
  | clearFaults =>
    refine keeps_ite h fun _ => ?_
    by_cases ha : s.member.selfState = .active
    · exact State.lockoutSound_of_ne (by simp [ha])
    · refine h.of_notices (by simp) (by simp) ?_
      rw [State.answer_line, State.clearFaults, State.postFaultChange_of_not_active (by simpa using ha)]
      exact id
  | withdraw => exact keeps_ite h fun _ => keeps_iteB (fun _ => State.lockoutSound_of_ne nofun) fun _ => h
  | rejoin =>
    refine keeps_ite h fun _ => keeps_iteB (fun _ => State.lockoutSound_of_ne ?_) fun _ => h
    rw [State.answer_member, State.emit_member, State.enterJoining_member]
    nofun
  | restart =>
    obtain ⟨-, hp, hr, hn, -⟩ := s.restart_timer_self
    refine keeps_ite h fun _ _ => ?_
    rw [State.answer_timer, State.answer_line]
    exact ⟨hp, hr, hn⟩
  | startTest code =>
    refine keeps_ite h fun _ => ?_
    unfold State.takeStartTest
    split
    · exact h
    · next c _ =>
      refine keeps_iteB (fun _ => h) fun _ => keeps_iteB (fun _ => h) fun hr => State.lockoutSound_of_ne fun hs => hr ?_
      have hself : s.member.selfState = .lockout := by simpa using hs
      simp [State.testRefused, hself]
  | postNotice value =>
    exact keeps_ite h fun _ => keeps_iteB (fun _ => h) fun hs => keeps_iteB (fun _ => h) fun _ =>
      State.lockoutSound_of_ne hs
  | markDeadline => exact keeps_ite h fun _ => h.of_notices rfl rfl (by simp)
  | listenTimeout => exact keeps_ite h fun _ => h.of_notices rfl rfl (by simp)
  | markDriveRelease | ownFrameComplete | collision | slotEnd | noticeFrameComplete | syncFound | codingBroken =>
    exact keeps_ite h fun _ => h
  | _ => exact h.of_untouched (by simp [touches]) (by simp [touches]) (by simp [touches])

/-- Settles O58: arming, disarming and LOCKOUT's silence are kept by every command, and a bit time touches neither. -/
theorem stepKeepsDeadlineAndLockout : Obligations.StepKeepsDeadlineAndLockout := fun _ _ hd hl hstep =>
  step_keeps (P := fun x => x.deadlineSound ∧ x.lockoutSound) (fun _ _ h => h) (fun _ h => h)
    (fun c _ h => ⟨h.1.after c, h.2.after c⟩) ⟨hd, hl⟩ hstep

end Sys2Proof.Machine
end

section
/-! SUPPORT. The queues and the Fault Register under every command (R104, R109, R131, R144 to R148): most commands only append
records, only post notices and only set faults, and the statement that every step keeps the three within their bounds. -/

namespace Sys2Proof.Machine

/-! ### Records appended -/

/-- One port is another with records appended. -/
def Appended (p q : LocalPort) : Prop := ∃ es, q = p.appendAll es

theorem Appended.refl (p : LocalPort) : Appended p p := ⟨[], rfl⟩

theorem Appended.appendAll (p : LocalPort) (es : List EventRecord) : Appended p (p.appendAll es) := ⟨es, rfl⟩

theorem Appended.trans {p q r : LocalPort} (hpq : Appended p q) (hqr : Appended q r) : Appended p r := by
  obtain ⟨es, rfl⟩ := hpq
  obtain ⟨fs, rfl⟩ := hqr
  exact ⟨es ++ fs, (p.appendAll_append es fs).symm⟩

theorem State.raiseDuplicateId_appended (s : State) : Appended s.port s.raiseDuplicateId.port := by
  unfold State.raiseDuplicateId
  split
  · exact .refl _
  · rw [State.emitTogether_port, State.enterLockout_port]
    exact .appendAll ..

theorem State.unbindPeer_appended (s : State) (k : Station) : Appended s.port (s.unbindPeer k).port := .appendAll ..

theorem State.takeNotice_appended (s : State) (f : NoticeFields) : Appended s.port (s.takeNotice f).port := by
  simp only [State.takeNotice, State.takeLeave]
  repeat' split
  · exact .refl _
  · exact (Appended.appendAll ..).trans (State.unbindPeer_appended ..)
  all_goals exact .appendAll ..

theorem State.updatePeer_appended (s : State) (k : Station) : Appended s.port (s.updatePeer k).port := by
  unfold State.updatePeer
  split
  · exact .refl _
  · split
    · simp only [State.hearPeer]
      repeat' split
      · exact (s.unbindPeer_appended k).trans (.appendAll ..)
      · exact .appendAll ..
      · exact s.unbindPeer_appended k
      · exact .refl _
    · simp only [State.missPeer]
      repeat' split
      · exact .refl _
      · exact .refl _
      · exact .refl _
      · exact (Appended.appendAll ..).trans (State.unbindPeer_appended ..)
      · exact .appendAll ..
      · exact .refl _

theorem State.claim_appended (s : State) (k : Station) : Appended s.port (s.claim k).port := by
  unfold State.claim
  exact keeps_iteB (P := fun x : State => Appended s.port x.port)
    (fun _ => keeps_ite (P := fun x : State => Appended s.port x.port) (.refl _) fun _ => .appendAll ..)
    (fun _ => keeps_ite (P := fun x : State => Appended s.port x.port) (.refl _) fun _ => .appendAll ..)

theorem foldl_appended {f : State → Station → State} (hf : ∀ s k, Appended s.port (f s k).port) (s : State)
    (ks : List Station) : Appended s.port (ks.foldl f s).port :=
  foldl_keeps (P := fun x : State => Appended s.port x.port) (fun x k hx => hx.trans (hf x k)) (.refl _) ks

theorem State.adopt_appended (s : State) (e : Option Epoch) : Appended s.port (s.adopt e).port := by
  cases e with
  | none => exact .refl _
  | some e =>
    simp only [State.adopt]
    split
    · rw [State.emit_port, State.enterJoining_port]
      exact (Appended.appendAll ..).trans (.appendAll ..)
    · exact .appendAll ..

theorem State.setJoinRuns_port (s : State) (run count : Nat) : (s.setJoinRuns run count).port = s.port := rfl

theorem State.testSelf_appended (s : State) (before : SelfState) (sent adopted : Bool) :
    Appended s.port (s.testSelf before sent adopted).port := by
  have htested := s.testSelf_tested before sent adopted
  generalize s.testSelf before sent adopted = t at htested
  cases htested with
  | same | listens | counts | unheard => exact .refl _
  | mismatch =>
    rw [State.mismatchLockout, State.emit_port, State.emit_port, State.enterLockout_port]
    exact (Appended.appendAll ..).trans (.appendAll ..)
  | joins =>
    rw [State.join, State.emit_port, State.enterJoining_port]
    exact .appendAll ..
  | activates =>
    rw [State.emit_port]
    exact .appendAll ..
  | fails =>
    rw [State.emit_port, State.fallToListen_port, State.setJoinRuns_port]
    exact .appendAll ..
  | falls =>
    rw [State.unheardFall, State.emit_port, State.fallToListen_port, State.setFault_port]
    exact .appendAll ..

theorem State.updatePeers_appended (s : State) : Appended s.port s.updatePeers.port := by
  unfold State.updatePeers
  exact foldl_appended State.updatePeer_appended _ _

theorem State.claims_appended (s : State) : Appended s.port s.claims.port := by
  unfold State.claims
  exact foldl_appended State.claim_appended _ _

/-- The state after steps 1 and 2 of admission (R81). -/
def State.peersUpdated (s : State) (sent : Bool) : State := (s.adopt (s.adoption sent)).updatePeers

/-- The state after steps 1 to 3 of admission (R81). -/
def State.selfTested (s : State) (sent : Bool) : State :=
  (s.peersUpdated sent).testSelf s.member.selfState sent (s.adoption sent).isSome

theorem State.admission_eq (s : State) (sent : Bool) : s.admission sent =
    if (s.selfTested sent).member.selfState.votes then
      (s.selfTested sent).claims.deliver ((s.selfTested sent).claims.admissionList s.member.selfState)
    else s.selfTested sent := by
  unfold State.admission State.selfTested State.peersUpdated
  exact if_congr Iff.rfl rfl rfl

theorem State.peersUpdated_appended (s : State) (sent : Bool) : Appended s.port (s.peersUpdated sent).port :=
  (s.adopt_appended _).trans (State.updatePeers_appended _)

theorem State.selfTested_appended (s : State) (sent : Bool) : Appended s.port (s.selfTested sent).port :=
  (s.peersUpdated_appended sent).trans (State.testSelf_appended _ _ _ _)

theorem State.admission_appended (s : State) (sent : Bool) : Appended s.port (s.admission sent).port := by
  rw [State.admission_eq]
  split
  · rw [State.deliver_port]
    exact (s.selfTested_appended sent).trans (State.claims_appended _)
  · exact s.selfTested_appended sent

@[simp] theorem State.markJoined_port (s : State) (m : MarkInputs) : (s.markJoined m).port = s.port := by
  unfold State.markJoined
  split
  · rw [State.enterJoining_port, (s.markTested_kept m).2.2.2.2]
  · exact (s.markTested_kept m).2.2.2.2

/-- The records of a mark are those of its blocks together (R145). -/
theorem State.mark_port (s : State) (m : MarkInputs) :
    (s.mark m).port = s.port.appendAll (mergeBlocks (s.markJoined m).freeCount (s.markBlocks m)).1 := by
  rw [State.mark_eq, State.emitTogether_port, State.markJoined_port]

/-- The publication of a vote, in the self states that publish (R137, R162). -/
def State.publishedIf (s : State) (v : VoteInFlight) : State :=
  if s.member.selfState.votes then s.publish (v.voted s.plan) v.epoch else s

/-- The write-back of a vote after its publication (R15). -/
def State.writtenBack (s : State) (v : VoteInFlight) : State :=
  { s.publishedIf v with engine := { rows := writeBackRows s.engine.rows (v.voted s.plan), vote := none } }

/-- The records of a vote and of its write-back (R15, R21). -/
def State.voteRecords (s : State) (v : VoteInFlight) : List EventRecord :=
  voteEventsFrom s.timer.epoch s.plan v.epoch 0 v.rows
    ++ rowStateEventsFrom s.timer.epoch 0 s.engine.rows (writeBackRows s.engine.rows (v.voted s.plan))

theorem State.completeVote_eq (s : State) (v : VoteInFlight) : s.completeVote v =
    if v.testRuns = true ∧ s.tests.runs .vote = true then ((s.writtenBack v).emit (s.voteRecords v)).endVoteTest
    else (s.writtenBack v).emit (s.voteRecords v) := rfl

theorem State.publish_port (s : State) (rows : List Row) (e : Epoch) : (s.publish rows e).port =
    s.port.appendAll (emulatorEvents s.timer.epoch s.emulator.state (s.publish rows e).emulator.state) := rfl

theorem State.publishedIf_appended (s : State) (v : VoteInFlight) : Appended s.port (s.publishedIf v).port := by
  unfold State.publishedIf
  split
  · exact ⟨_, s.publish_port ..⟩
  · exact .refl _

theorem State.endVoteTest_appended (s : State) : Appended s.port s.endVoteTest.port := by
  rw [State.endVoteTest, State.emit_port, State.endTest_port]
  exact .appendAll ..

theorem State.completeVote_appended (s : State) (v : VoteInFlight) : Appended s.port (s.completeVote v).port := by
  have hback : Appended s.port ((s.writtenBack v).emit (s.voteRecords v)).port :=
    (s.publishedIf_appended v).trans ⟨_, rfl⟩
  rw [State.completeVote_eq]
  split
  · exact hback.trans (State.endVoteTest_appended _)
  · exact hback

theorem State.roundEnd_appended (s : State) (j : RoundNumber) : Appended s.port (s.roundEnd j).port := by
  simp only [State.roundEnd, State.emit_port]
  split <;> exact .appendAll ..

theorem State.restart_appended (s : State) : Appended s.port s.restart.port := by
  simp only [State.restart, State.emitTogether_port, State.emit_port, State.clearTable_port, State.abortTest_port]
  exact (Appended.appendAll ..).trans (.appendAll ..)

theorem State.enterLeaving_appended (s : State) : Appended s.port s.enterLeaving.port := by
  rw [State.enterLeaving, State.emitTogether_port, State.post_port]
  exact .appendAll ..

/-! ### The local port (R144, R147, R148) -/

/-- `State.portSound` of a port. -/
def LocalPort.ok (p : LocalPort) : Prop :=
  p.events.length ≤ 32 ∧ p.toDeliver ≤ p.events.length ∧ (p.csnLow = false → p.txn = .closed) ∧
    (p.txn ≠ .response → p.toDeliver = 0)

theorem LocalPort.ok.appended {p q : LocalPort} (h : p.ok) (hpq : Appended p q) : q.ok := by
  obtain ⟨es, rfl⟩ := hpq
  obtain ⟨hlen, hdeliver, hcsn, htxn⟩ := h
  refine ⟨p.appendAll_length_le es hlen, ?_, by simpa using hcsn, by simpa using htxn⟩
  rw [LocalPort.appendAll_toDeliver]
  exact hdeliver.trans (p.appendAll_prefix es).length_le

/-- A command that is taken stands in an open transaction, which has nothing to deliver yet. -/
theorem LocalPort.ok.of_takes {s : State} (h : s.port.ok) {c : LocalCommand} (ht : s.takes c = true) :
    s.port.csnLow = true ∧ s.port.toDeliver = 0 := by
  obtain ⟨-, -, hcsn, htxn⟩ := h
  have hopen : s.port.txn ≠ .closed ∧ s.port.txn ≠ .response := by
    simp only [State.takes, Bool.or_eq_true, Bool.and_eq_true, beq_iff_eq] at ht
    rcases ht with ht | ⟨-, ht⟩ <;> simp [ht]
  exact ⟨by_contra fun hlow => hopen.1 (hcsn (by simpa using hlow)), htxn hopen.2⟩

/-- An answer to a command that is taken, whatever was appended before it. -/
theorem LocalPort.ok.answer {s t : State} (h : s.port.ok) {c : LocalCommand} (ht : s.takes c = true)
    (happ : Appended s.port t.port) (st : Status) (data : List Byte) : (t.answer st data).port.ok := by
  obtain ⟨hlow, hnone⟩ := h.of_takes ht
  obtain ⟨hlen, hdeliver, -, -⟩ := h.appended happ
  obtain ⟨es, hes⟩ := happ
  refine ⟨hlen, hdeliver, fun hc => ?_, fun hc => absurd rfl hc⟩
  rw [State.answer_port, hes] at hc
  simp [hlow] at hc

/-- An answer inside the guard of its command. -/
theorem LocalPort.ok.guarded {s t : State} (h : s.port.ok) {c : LocalCommand} (happ : Appended s.port t.port)
    (st : Status) (data : List Byte) : (if s.takes c then t.answer st data else s).port.ok :=
  keeps_ite (P := fun x => x.port.ok) h fun ht => h.answer ht happ st data

theorem LocalPort.ok.after {s : State} (h : s.port.ok) (c : Instr) : (s.after c).port.ok := by
  cases c with
  | reset x low =>
    refine ⟨?_, Nat.zero_le _, fun _ => rfl, fun _ => rfl⟩
    simp only [State.after, exec, execReset, State.atReset]
    split <;> simp
  | markRecognised m =>
    exact keeps_iteB (P := fun x => x.port.ok) (fun _ => h) fun _ => h.appended ⟨_, s.mark_port m⟩
  | collisionJudgement =>
    exact keeps_ite (P := fun x => x.port.ok) h fun _ => h.appended (State.raiseDuplicateId_appended _)
  | frameReceived frame =>
    simp only [State.after, exec, execFrameReceived]
    split
    · refine keeps_ite (P := fun x => x.port.ok) h fun _ => ?_
      simp only [State.takeFrame]
      split
      · exact h.appended (State.raiseDuplicateId_appended _)
      · exact h
    all_goals exact h
  | close =>
    rcases s.after_close_cases with heq | ⟨-, heq⟩ <;> rw [heq]
    · exact h
    · exact h.appended (State.admission_appended s.closed _)
  | voteCompletion =>
    simp only [State.after, exec, execVoteCompletion]
    split
    · exact h.appended (s.completeVote_appended _)
    · exact h
  | roundEnd j => exact keeps_ite (P := fun x => x.port.ok) h fun _ => h.appended (s.roundEnd_appended j)
  | noticeReceived frame =>
    refine keeps_ite (P := fun x => x.port.ok) h fun _ => ?_
    simp only [State.receiveNotice]
    repeat' split
    · exact h.appended (State.raiseDuplicateId_appended _)
    · exact h.appended (State.takeNotice_appended { s with line.receiver := .settled } _)
    · exact h
  | csnFall =>
    exact keeps_iteB (P := fun x => x.port.ok) (fun _ => h) fun _ => ⟨h.1, Nat.zero_le _, nofun, fun _ => rfl⟩
  | csnRise =>
    exact keeps_ite (P := fun x => x.port.ok) h fun _ => ⟨h.1, Nat.zero_le _, fun _ => rfl, fun _ => rfl⟩
  | badCommand byte =>
    refine keeps_ite (P := fun x => x.port.ok) h fun hc => ⟨h.1, h.2.1, fun hlow => ?_, fun _ => ?_⟩
    · exact absurd (h.2.2.1 hlow) (by simp [hc.1])
    · exact h.2.2.2 (by simp [hc.1])
  | commandByte byte =>
    simp only [State.after, exec, execCommandByte]
    split
    · refine keeps_ite (P := fun x => x.port.ok) h fun hc => ⟨h.1, h.2.1, fun hlow => ?_, fun _ => ?_⟩
      · exact absurd (h.2.2.1 hlow) (by simp [hc.1])
      · exact h.2.2.2 (by simp [hc.1])
    · exact h
  | readStatus => exact h.guarded (.refl _) _ _
  | readEvents count =>
    refine keeps_ite (P := fun x => x.port.ok) h fun ht => keeps_iteB (P := fun x => x.port.ok) (fun _ => ?_) fun _ =>
      h.answer ht (.refl _) _ _
    exact ⟨h.1, Nat.min_le_right _ _, fun hc => absurd ((h.of_takes ht).1.symm.trans hc) (by decide),
      fun hc => absurd rfl hc⟩
  | eventRecordDelivered =>
    refine keeps_ite (P := fun x => x.port.ok) h fun hc => ?_
    obtain ⟨hlen, hdeliver, hcsn, htxn⟩ := h
    refine ⟨?_, ?_, hcsn, fun hr => absurd hc.1 hr⟩
    · simp only [List.length_tail]; omega
    · simp only [List.length_tail]; omega
  | pin =>
    refine keeps_ite (P := fun x => x.port.ok) h fun ht => ?_
    simp only [State.pinFront]
    split <;> exact h.answer ht ⟨[], rfl⟩ _ _
  | unpin => exact h.guarded (t := { s with store.pin := none }) (.refl _) _ _
  | readPage =>
    refine keeps_ite (P := fun x => x.port.ok) h fun ht => ?_
    simp only [State.readPage]
    split <;> exact h.answer ht ⟨[], rfl⟩ _ _
  | readPeers => exact h.guarded (.refl _) _ _
  | clearFaults => exact h.guarded ⟨[], by simp⟩ _ _
  | withdraw =>
    exact keeps_ite (P := fun x => x.port.ok) h fun ht => keeps_iteB (P := fun x => x.port.ok)
      (fun _ => h.answer ht s.enterLeaving_appended _ _) fun _ => h.answer ht (.refl _) _ _
  | rejoin =>
    exact keeps_ite (P := fun x => x.port.ok) h fun ht => keeps_iteB (P := fun x => x.port.ok)
      (fun _ => h.answer ht ⟨_, by rw [State.emit_port, State.enterJoining_port]⟩ _ _) fun _ => h.answer ht (.refl _) _ _
  | restart => exact h.guarded s.restart_appended _ _
  | startTest code =>
    refine keeps_ite (P := fun x => x.port.ok) h fun ht => ?_
    simp only [State.takeStartTest]
    repeat' split
    · exact h.answer ht (.refl _) _ _
    · exact h.answer ht (.refl _) _ _
    · exact h.answer ht (.refl _) _ _
    · exact h.answer ht ⟨[], by simp⟩ _ _
  | clearResult =>
    exact keeps_ite (P := fun x => x.port.ok) h fun ht => keeps_iteB (P := fun x => x.port.ok)
      (fun _ => h.answer ht (.refl _) _ _)
      fun _ => LocalPort.ok.answer (t := { s with tests.result := none }) h ht (.refl _) _ _
  | postNotice value =>
    exact keeps_ite (P := fun x => x.port.ok) h fun ht => keeps_iteB (P := fun x => x.port.ok)
      (fun _ => h.answer ht (.refl _) _ _) fun _ => keeps_iteB (P := fun x => x.port.ok)
      (fun _ => h.answer ht (.refl _) _ _) fun _ => h.answer ht ⟨[], rfl⟩ _ _
  | _ => rwa [(s.after_keeps _).port (by simp [touches])]

end Sys2Proof.Machine
end

section
/-! SUPPORT. What a test's end and step 8 of a mark post and hold (R105, R129, R132, R169), and the Notice Queue and FLT under
every command (R104, R109, R131). -/

namespace Sys2Proof.Machine

/-! ### Postings (R105, R132) -/

/-- A queue after several postings, one after the other (R105). -/
def postAll (q : List NoticeEntry) (posts : List (NoticeKind × Byte)) : List NoticeEntry :=
  posts.foldl (fun q p => postNotice q p.1 p.2) q

@[simp] theorem postAll_nil (q : List NoticeEntry) : postAll q [] = q := rfl

theorem postAll_append (q : List NoticeEntry) (ps ps' : List (NoticeKind × Byte)) :
    postAll q (ps ++ ps') = postAll (postAll q ps) ps' := List.foldl_append ..

/-- The line after several postings. -/
def LineController.posted (l : LineController) (posts : List (NoticeKind × Byte)) : LineController :=
  { l with notices := postAll l.notices posts }

@[simp] theorem LineController.posted_notices (l : LineController) (ps : List (NoticeKind × Byte)) :
    (l.posted ps).notices = postAll l.notices ps := rfl

@[simp] theorem LineController.posted_nil (l : LineController) : l.posted [] = l := rfl

theorem LineController.posted_append (l : LineController) (ps ps' : List (NoticeKind × Byte)) :
    l.posted (ps ++ ps') = (l.posted ps).posted ps' := by
  simp [LineController.posted, postAll_append]

/-- What a block posts when an event takes the held set from one to another (R132). -/
def faultPosts (self : SelfState) (before after : FaultSet) : List (NoticeKind × Byte) :=
  if reportedPart before ≠ reportedPart after ∧ self = .active then [(.fault, faultArgument after)] else []

@[simp] theorem faultPosts_same (self : SelfState) (held : FaultSet) : faultPosts self held held = [] := by
  simp [faultPosts]

theorem State.postFaultChange_line (s : State) (before : FaultSet) : (s.postFaultChange before).line =
    s.line.posted (faultPosts s.member.selfState before s.faults.held) := by
  unfold State.postFaultChange faultPosts
  split <;> rfl

/-! ### The end of a test (R169) -/

/-- The held set and FLT after a test's end with an outcome (R169, step 5). -/
def endFaults (f : FaultRegister) (o : TestOutcome) : FaultRegister :=
  match o with
  | .fail _ => f.set .selfTest
  | .running | .pass | .aborted _ => f

/-- What a test's end posts (R169, steps 4 and 5). -/
def endPosts (self : SelfState) (f : FaultRegister) (c : TestCode) (o : TestOutcome) : List (NoticeKind × Byte) :=
  (if c.marksSample ∧ self = .active then [(.test, testEndArgument c o)] else [])
    ++ faultPosts self f.held (endFaults f o).held

@[simp] theorem State.endTest_faults (s : State) (c : TestCode) (o : TestOutcome) :
    (s.endTest c o).faults = endFaults s.faults o := by
  cases o <;> simp [State.endTest, endFaults]

theorem State.postTestEnd_line (s : State) (c : TestCode) (o : TestOutcome) : (s.postTestEnd c o).line =
    s.line.posted (if c.marksSample ∧ s.member.selfState = .active then [(.test, testEndArgument c o)] else []) := by
  unfold State.postTestEnd
  split <;> rfl

theorem State.failSelfTest_line (s : State) : s.failSelfTest.line =
    s.line.posted (faultPosts s.member.selfState s.faults.held (s.faults.set .selfTest).held) :=
  State.postFaultChange_line _ _

theorem State.endTest_line (s : State) (c : TestCode) (o : TestOutcome) : (s.endTest c o).line =
    s.line.posted (endPosts s.member.selfState s.faults c o) := by
  have hposted : ((s.finishTest c o).postTestEnd c o).line = s.line.posted
      (if c.marksSample ∧ s.member.selfState = .active then [(.test, testEndArgument c o)] else []) := by
    rw [State.postTestEnd_line, State.finishTest_line, State.finishTest_member]
  cases o with
  | fail n =>
    simp only [State.endTest, State.failSelfTest_line, hposted, State.postTestEnd_member, State.finishTest_member,
      State.postTestEnd_faults, State.finishTest_faults, endPosts, LineController.posted_append]
    rfl
  | running | pass | aborted _ => simp [State.endTest, hposted, endPosts, endFaults]

/-! ### The test step and step 8 of a mark -/

/-- The held set and FLT after the test step of a mark: a test that ends, or none. -/
def endFaultsAt (f : FaultRegister) : Option (TestCode × TestOutcome) → FaultRegister
  | some (_, o) => endFaults f o
  | none => f

/-- What the test step of a mark posts. -/
def endPostsAt (self : SelfState) (f : FaultRegister) : Option (TestCode × TestOutcome) → List (NoticeKind × Byte)
  | some (c, o) => endPosts self f c o
  | none => []

/-- The test step of a mark: nothing without a test and under VOTE, an end where the step decides one, else the step. -/
theorem State.testAtMark_eq (s : State) (m : MarkInputs) : s.testAtMark m =
    match s.testOutcomeAt m, s.tests.running with
    | some (c, o), _ => s.endTest c o
    | none, some r => if r.code = .vote then s else s.stepTest r
    | none, none => s := by
  unfold State.testAtMark State.testOutcomeAt
  cases hr : s.tests.running with
  | none => rfl
  | some r =>
    by_cases hv : r.code = .vote
    · simp [hv, testDecision]
    · cases hd : testDecision r.code (r.step + 1) m s.emulator.counter s.emulator.perTurn <;> simp [hv, hd]

theorem State.testAtMark_faults (s : State) (m : MarkInputs) :
    (s.testAtMark m).faults = endFaultsAt s.faults (s.testOutcomeAt m) := by
  rw [State.testAtMark_eq]
  split
  · next hd => simp [hd, endFaultsAt]
  · next hd _ => split <;> simp [hd, endFaultsAt]
  · next hd _ => simp [hd, endFaultsAt]

theorem State.testAtMark_line (s : State) (m : MarkInputs) : (s.testAtMark m).line =
    s.line.posted (endPostsAt s.member.selfState s.faults (s.testOutcomeAt m)) := by
  rw [State.testAtMark_eq]
  split
  · next hd => rw [State.endTest_line, hd]; rfl
  · next hd _ => split <;> simp [hd, endPostsAt]
  · next hd _ => simp [hd, endPostsAt]

/-- The held set and FLT after step 8 of a mark, from the conditions evaluated (R129). -/
def heldSensors (evaluated : CondSet) (f : FaultRegister) : FaultRegister :=
  (sensorKinds.filter fun k => condHolds evaluated k && !holds f.held k).foldl FaultRegister.set f

theorem State.holdSensorFaults_faults_eq (s : State) :
    s.holdSensorFaults.faults = heldSensors s.sensor.evaluated s.faults := s.holdSensorFaults_faults

theorem State.holdSensorFaults_line (s : State) : s.holdSensorFaults.line =
    s.line.posted (faultPosts s.member.selfState s.faults.held (heldSensors s.sensor.evaluated s.faults).held) :=
  State.postFaultChange_line _ _

/-- Whether the test step of a mark is taken before step 8 (log 7). -/
def State.testFirst (s : State) (m : MarkInputs) : Bool := !s.postOrderOpen m || Config.freeChoice s.freeCount

/-- The state in which that order is chosen. -/
def State.orderChosen (s : State) (m : MarkInputs) : State :=
  { s with freeCount := if s.postOrderOpen m then s.freeCount + 1 else s.freeCount }

theorem State.markTestAndFaults_eq (s : State) (m : MarkInputs) : s.markTestAndFaults m =
    if s.testFirst m then ((s.orderChosen m).testAtMark m).holdSensorFaults
    else ((s.orderChosen m).holdSensorFaults).testAtMark m := by
  unfold State.markTestAndFaults State.testFirst State.orderChosen
  cases s.postOrderOpen m with
  | false => rfl
  | true => cases Config.freeChoice s.freeCount <;> rfl

/-! ### The Notice Queue within its bounds (R104, R109) -/

/-- `State.noticesSound` of a queue, but for the length, which follows from the kinds. -/
def NoticesOk (q : List NoticeEntry) : Prop := (q.map NoticeEntry.kind).Nodup ∧ ∀ e ∈ q, e.rounds < 32

/-- There are four kinds, so a queue of distinct kinds holds at most four entries (R104). -/
theorem length_le_four_of_kinds {q : List NoticeEntry} (h : (q.map NoticeEntry.kind).Nodup) : q.length ≤ 4 := by
  have hall : q.map NoticeEntry.kind ⊆ [.leave, .fault, .test, .user] := by
    intro k _
    cases k <;> simp
  simpa using (List.subperm_of_subset h hall).length_le

theorem State.noticesSound_iff_ok (s : State) : s.noticesSound ↔ NoticesOk s.line.notices :=
  ⟨fun h => h.2, fun h => ⟨length_le_four_of_kinds h.1, h⟩⟩

theorem NoticesOk.nil : NoticesOk [] := ⟨List.nodup_nil, nofun⟩

/-- A queue whose entries come from another, in its order and with their kinds, keeps the kinds distinct. -/
theorem NoticesOk.of_sublist {q q' : List NoticeEntry} (h : NoticesOk q)
    (hsub : (q'.map NoticeEntry.kind).Sublist (q.map NoticeEntry.kind)) (hr : ∀ e ∈ q', e.rounds < 32) : NoticesOk q' :=
  ⟨h.1.sublist hsub, hr⟩

theorem NoticeEntry.repost_rounds_le (e : NoticeEntry) (arg : Byte) : (e.repost arg).rounds ≤ e.rounds := by
  unfold NoticeEntry.repost
  split <;> simp

theorem NoticesOk.post {q : List NoticeEntry} (h : NoticesOk q) (k : NoticeKind) (arg : Byte) :
    NoticesOk (postNotice q k arg) := by
  refine ⟨postNotice_nodup q k arg h.1, fun e he => ?_⟩
  unfold postNotice at he
  split at he
  · obtain ⟨x, hx, rfl⟩ := List.mem_map.1 he
    have hlt := h.2 x hx
    split
    · exact (x.repost_rounds_le arg).trans_lt hlt
    · exact hlt
  · rcases List.mem_append.1 he with he | he
    · exact h.2 e he
    · obtain rfl := List.mem_singleton.1 he
      exact Nat.zero_lt_succ 31

theorem NoticesOk.postAll {q : List NoticeEntry} (h : NoticesOk q) (ps : List (NoticeKind × Byte)) :
    NoticesOk (postAll q ps) := by
  induction ps generalizing q with
  | nil => exact h
  | cons p ps ih => exact ih (h.post p.1 p.2)

theorem takeCompleted_kinds (q : List NoticeEntry) :
    ((takeCompleted q).map NoticeEntry.kind).Sublist (q.map NoticeEntry.kind) := by
  induction q with
  | nil => exact .slnil
  | cons e q ih =>
    simp only [takeCompleted, List.filterMap_cons, List.map_cons] at ih ⊢
    split
    · exact ih.cons _
    · next x hx =>
      have hkind : x.kind = e.kind := by
        split at hx
        · split at hx
          · obtain rfl := Option.some.inj hx; rfl
          · cases hx
        · rw [Option.some.inj hx]
      rw [List.map_cons, hkind]
      exact ih.cons_cons _

theorem mem_takeCompleted {q : List NoticeEntry} {x : NoticeEntry} (h : x ∈ takeCompleted q) :
    x.rounds = 0 ∨ x ∈ q := by
  obtain ⟨e, he, hx⟩ := List.mem_filterMap.1 h
  split at hx
  · split at hx
    · obtain rfl := Option.some.inj hx; exact .inl rfl
    · cases hx
  · exact .inr (Option.some.inj hx ▸ he)

theorem NoticesOk.takeCompleted {q : List NoticeEntry} (h : NoticesOk q) : NoticesOk (takeCompleted q) := by
  refine h.of_sublist (takeCompleted_kinds q) fun x hx => ?_
  rcases mem_takeCompleted hx with h0 | hx
  · omega
  · exact h.2 x hx

theorem dropFlight_kinds (q : List NoticeEntry) : (dropFlight q).map NoticeEntry.kind = q.map NoticeEntry.kind := by
  simp [dropFlight, Function.comp_def]

theorem NoticesOk.dropFlight {q : List NoticeEntry} (h : NoticesOk q) : NoticesOk (dropFlight q) := by
  refine h.of_sublist (by rw [dropFlight_kinds]) fun x hx => ?_
  obtain ⟨e, he, rfl⟩ := List.mem_map.1 hx
  exact h.2 e he

theorem NoticesOk.markFlight {q : List NoticeEntry} (h : NoticesOk q) (k : NoticeKind) :
    NoticesOk (markFlight q k) := by
  have hkinds : (Machine.markFlight q k).map NoticeEntry.kind = q.map NoticeEntry.kind := by
    rw [Machine.markFlight, List.map_map]
    refine List.map_congr_left fun e _ => ?_
    simp only [Function.comp]
    split <;> rfl
  refine h.of_sublist (by rw [hkinds]) fun x hx => ?_
  obtain ⟨e, he, rfl⟩ := List.mem_map.1 hx
  have hlt := h.2 e he
  split <;> exact hlt

theorem roundQueue_kinds (sends completed : Bool) (q : List NoticeEntry) :
    ((roundQueue sends completed q).map NoticeEntry.kind).Sublist (q.map NoticeEntry.kind) := by
  have haged : (if sends then q.map (NoticeEntry.age completed) else q).map NoticeEntry.kind =
      q.map NoticeEntry.kind := by
    split
    · rw [List.map_map]
      refine List.map_congr_left fun e _ => ?_
      simp only [Function.comp, NoticeEntry.age]
      split <;> rfl
    · rfl
  rw [← haged]
  simp only [roundQueue]
  split
  · exact takeCompleted_kinds _
  · rw [dropFlight_kinds]

/-- A round end leaves entries of fewer than 32 rounds, whatever it found (R109). -/
theorem NoticesOk.roundEnd {q : List NoticeEntry} (h : NoticesOk q) (sends completed : Bool) :
    NoticesOk (dropExpired (roundQueue sends completed q)) :=
  h.of_sublist ((List.filter_sublist.map _).trans (roundQueue_kinds sends completed q))
    fun _ he => of_decide_eq_true (List.mem_filter.1 he).2

theorem NoticesOk.atMark {l : LineController} (h : NoticesOk l.notices) (noClose : Bool) :
    NoticesOk (l.atMark noClose).notices := by
  simp only [LineController.atMark]
  split
  · exact h.takeCompleted
  · exact h.dropFlight

theorem NoticesOk.holdSensorFaults {s : State} (h : NoticesOk s.line.notices) :
    NoticesOk s.holdSensorFaults.line.notices := by
  rw [State.holdSensorFaults_line]
  exact h.postAll _

theorem NoticesOk.testAtMark {s : State} (h : NoticesOk s.line.notices) (m : MarkInputs) :
    NoticesOk (s.testAtMark m).line.notices := by
  rw [State.testAtMark_line]
  exact h.postAll _

theorem NoticesOk.endTest {s : State} (h : NoticesOk s.line.notices) (c : TestCode) (o : TestOutcome) :
    NoticesOk (s.endTest c o).line.notices := by
  rw [State.endTest_line]
  exact h.postAll _

theorem NoticesOk.mark {s : State} (h : NoticesOk s.line.notices) (m : MarkInputs) :
    NoticesOk (s.mark m).line.notices := by
  have hsensed : NoticesOk (s.markSensed m).line.notices := by
    rw [State.markSensed_line]
    exact h.atMark _
  have htested : NoticesOk (s.markTested m).line.notices := by
    have hchosen : NoticesOk ((s.markSensed m).orderChosen m).line.notices := hsensed
    rw [State.markTested, State.markTestAndFaults_eq]
    split
    · exact (hchosen.testAtMark m).holdSensorFaults
    · exact hchosen.holdSensorFaults.testAtMark m
  rw [State.mark_eq, State.emitTogether_line, State.markJoined]
  split
  · rwa [State.enterJoining_notices]
  · exact htested

theorem NoticesOk.raiseDuplicateId {s : State} (h : NoticesOk s.line.notices) :
    NoticesOk s.raiseDuplicateId.line.notices := by
  unfold State.raiseDuplicateId
  split
  · exact h
  · rw [State.emitTogether_line, State.enterLockout_line]
    exact .nil

theorem NoticesOk.testSelf {s : State} (h : NoticesOk s.line.notices) (before : SelfState) (sent adopted : Bool) :
    NoticesOk (s.testSelf before sent adopted).line.notices := by
  have htested := s.testSelf_tested before sent adopted
  generalize s.testSelf before sent adopted = t at htested
  cases htested with
  | same | listens | counts | unheard | activates | fails | falls => exact h
  | mismatch =>
    rw [State.mismatchLockout, State.emit_line, State.emit_line, State.enterLockout_line]
    exact .nil
  | joins =>
    rw [State.join, State.emit_line, State.enterJoining_notices]
    exact h

theorem State.peersUpdated_line (s : State) (sent : Bool) :
    (s.peersUpdated sent).line.notices = s.line.notices := by
  rw [State.peersUpdated, (State.updatePeers_kept _).2.1]
  cases s.adoption sent with
  | none => rfl
  | some e =>
    simp only [State.adopt]
    split
    · rw [State.emit_line, State.enterJoining_notices, State.emit_line]
    · rfl

theorem NoticesOk.admission {s : State} (h : NoticesOk s.line.notices) (sent : Bool) :
    NoticesOk (s.admission sent).line.notices := by
  have hpeers : NoticesOk (s.peersUpdated sent).line.notices := by rwa [s.peersUpdated_line sent]
  have hself : NoticesOk (s.selfTested sent).line.notices := by
    unfold State.selfTested
    exact hpeers.testSelf ..
  rw [State.admission_eq]
  split
  · rw [State.deliver_line, (State.claims_kept _).2.1]
    exact hself
  · exact hself

end Sys2Proof.Machine
end

section
/-! SUPPORT. Every step keeps both queues within their bounds and FLT with the held set. -/

namespace Sys2Proof.Machine

/-- A block of members, faults or the port changed leaves the notices alone. -/
theorem NoticesOk.completeVote {s : State} (h : NoticesOk s.line.notices) (v : VoteInFlight) :
    NoticesOk (s.completeVote v).line.notices := by
  have hback : NoticesOk ((s.writtenBack v).emit (s.voteRecords v)).line.notices := by
    have hpublished : (s.publishedIf v).line = s.line := by unfold State.publishedIf; split <;> rfl
    rw [State.emit_line, State.writtenBack]
    rwa [← hpublished] at h
  rw [State.completeVote_eq]
  split
  · rw [State.endVoteTest, State.emit_line]
    exact hback.endTest _ _
  · exact hback

theorem NoticesOk.startTest {s : State} (h : NoticesOk s.line.notices) (c : TestCode) :
    NoticesOk (s.startTest c).line.notices := by
  have hposted (x : State) (hx : NoticesOk x.line.notices) :
      NoticesOk (if c.marksSample ∧ x.member.selfState = .active then x.post .test (testStartArgument c)
        else x).line.notices := by
    split
    · exact hx.post _ _
    · exact hx
  have hstarted := hposted { s with
    tests := { running := some ⟨c, 0, c.length⟩, result := some ⟨c, .running, none⟩ } } h
  cases c <;> exact hstarted

theorem NoticesOk.after {s : State} (h : NoticesOk s.line.notices) (c : Instr) :
    NoticesOk (s.after c).line.notices := by
  cases c with
  | reset x low => exact .nil
  | markRecognised m => exact keeps_iteB (P := fun x : State => NoticesOk x.line.notices) (fun _ => h) fun _ => h.mark m
  | markDeadline | listenTimeout =>
    exact keeps_ite (P := fun x : State => NoticesOk x.line.notices) h fun _ => by simpa using h
  | markDriveRelease | ownFrameComplete | collision | syncFound | codingBroken | slotEnd _ | noticeFrameComplete =>
    exact keeps_ite (P := fun x : State => NoticesOk x.line.notices) h fun _ => h
  | slotBegin k =>
    refine keeps_ite (P := fun x : State => NoticesOk x.line.notices) h fun _ => ?_
    simp only [State.slotBegin]
    repeat' split
    all_goals exact h
  | collisionJudgement =>
    exact keeps_ite (P := fun x : State => NoticesOk x.line.notices) h fun _ =>
      NoticesOk.raiseDuplicateId (s := { s with line.awaiting := false }) h
  | frameReceived frame =>
    simp only [State.after, exec, execFrameReceived]
    split
    · refine keeps_ite (P := fun x : State => NoticesOk x.line.notices) h fun _ => ?_
      exact keeps_ite (P := fun x : State => NoticesOk x.line.notices) h fun _ => NoticesOk.raiseDuplicateId h
    all_goals exact h
  | close =>
    rcases s.after_close_cases with heq | ⟨-, heq⟩ <;> rw [heq]
    · exact h
    · exact NoticesOk.admission (s := s.closed) h _
  | voteCompletion =>
    simp only [State.after, exec, execVoteCompletion]
    split
    · exact h.completeVote _
    · exact h
  | roundBegin j =>
    refine keeps_ite (P := fun x : State => NoticesOk x.line.notices) h fun _ => ?_
    simp only [State.roundBegin]
    repeat' split
    · exact h.markFlight _
    all_goals exact h
  | noticeCollision => exact keeps_ite (P := fun x : State => NoticesOk x.line.notices) h fun _ => h.dropFlight
  | roundEnd j =>
    refine keeps_ite (P := fun x : State => NoticesOk x.line.notices) h fun _ => ?_
    simp only [State.roundEnd, State.emit_line]
    split <;> exact h.roundEnd _ _
  | noticeReceived frame =>
    refine keeps_ite (P := fun x : State => NoticesOk x.line.notices) h fun _ => ?_
    simp only [State.receiveNotice]
    repeat' split
    · exact NoticesOk.raiseDuplicateId (s := { s with line.receiver := .settled }) h
    · rw [(State.takeNotice_kept _ _).2.1]
      exact h
    · exact h
  | clearFaults =>
    refine keeps_ite (P := fun x : State => NoticesOk x.line.notices) h fun _ => ?_
    rw [State.answer_line, State.clearFaults, State.postFaultChange_line]
    exact NoticesOk.postAll h _
  | withdraw =>
    refine keeps_ite (P := fun x : State => NoticesOk x.line.notices) h fun _ =>
      keeps_iteB (P := fun x : State => NoticesOk x.line.notices) (fun _ => ?_) fun _ => h
    rw [State.answer_line, State.enterLeaving, State.emitTogether_line]
    exact h.post _ _
  | rejoin =>
    refine keeps_ite (P := fun x : State => NoticesOk x.line.notices) h fun _ =>
      keeps_iteB (P := fun x : State => NoticesOk x.line.notices) (fun _ => ?_) fun _ => h
    rw [State.answer_line, State.emit_line, State.enterJoining_notices]
    exact h
  | restart =>
    refine keeps_ite (P := fun x : State => NoticesOk x.line.notices) h fun _ => ?_
    rw [State.answer_line, s.restart_kept.2.1]
    exact .nil
  | startTest code =>
    refine keeps_ite (P := fun x : State => NoticesOk x.line.notices) h fun _ => ?_
    simp only [State.takeStartTest]
    repeat' split
    · exact h
    · exact h
    · exact h
    · exact h.startTest _
  | postNotice value =>
    exact keeps_ite (P := fun x : State => NoticesOk x.line.notices) h fun _ =>
      keeps_iteB (P := fun x : State => NoticesOk x.line.notices) (fun _ => h) fun _ =>
        keeps_iteB (P := fun x : State => NoticesOk x.line.notices) (fun _ => h) fun _ => h.post _ _
  | _ => rwa [(s.after_keeps _).line (by simp [touches])]

/-! ### FLT (R131) -/

/-- `State.faultLineSound` of a fault register. -/
def FaultRegister.ok (f : FaultRegister) : Prop := f.flt = true ↔ f.held ≠ 0

theorem FaultRegister.ok_set (f : FaultRegister) (k : FaultKind) : (f.set k).ok :=
  iff_of_true (f.set_flt_held k).1 (f.set_flt_held k).2

theorem FaultRegister.ok.endFaults {f : FaultRegister} (h : f.ok) (o : TestOutcome) : (endFaults f o).ok := by
  cases o with
  | fail n => exact f.ok_set _
  | running | pass | aborted _ => exact h

theorem FaultRegister.ok.endFaultsAt {f : FaultRegister} (h : f.ok) (e : Option (TestCode × TestOutcome)) :
    (endFaultsAt f e).ok := by
  cases e with
  | none => exact h
  | some e => exact h.endFaults e.2

theorem FaultRegister.ok.heldSensors {f : FaultRegister} (h : f.ok) (evaluated : CondSet) :
    (heldSensors evaluated f).ok :=
  foldl_keeps (P := FaultRegister.ok) (fun f k _ => f.ok_set k) h _

theorem FaultRegister.ok.markTested {s : State} (h : s.faults.ok) (m : MarkInputs) : (s.markTested m).faults.ok := by
  have hchosen : ((s.markSensed m).orderChosen m).faults.ok := by
    rw [State.orderChosen, (s.markSensed_kept m).2.2.1]
    exact h
  rw [State.markTested, State.markTestAndFaults_eq]
  split
  · rw [State.holdSensorFaults_faults_eq, State.testAtMark_faults]
    exact (hchosen.endFaultsAt _).heldSensors _
  · rw [State.testAtMark_faults, State.holdSensorFaults_faults_eq]
    exact (hchosen.heldSensors _).endFaultsAt _

theorem FaultRegister.ok.mark {s : State} (h : s.faults.ok) (m : MarkInputs) : (s.mark m).faults.ok := by
  rw [State.mark_eq, State.emitTogether_faults, State.markJoined]
  split
  · rw [State.enterJoining_faults]
    exact h.markTested m
  · exact h.markTested m

theorem FaultRegister.ok.raiseDuplicateId {s : State} (h : s.faults.ok) : s.raiseDuplicateId.faults.ok := by
  unfold State.raiseDuplicateId
  split
  · exact h
  · rw [State.emitTogether_faults, State.enterLockout_faults]
    exact FaultRegister.ok_set ..

theorem FaultRegister.ok.testSelf {s : State} (h : s.faults.ok) (before : SelfState) (sent adopted : Bool) :
    (s.testSelf before sent adopted).faults.ok := by
  have htested := s.testSelf_tested before sent adopted
  generalize s.testSelf before sent adopted = t at htested
  cases htested with
  | same | listens | counts | unheard | activates | fails => exact h
  | falls =>
    rw [State.unheardFall, State.emit_faults, State.fallToListen_faults]
    exact FaultRegister.ok_set ..
  | mismatch =>
    rw [State.mismatchLockout, State.emit_faults, State.emit_faults, State.enterLockout_faults]
    exact FaultRegister.ok_set ..
  | joins =>
    rw [State.join, State.emit_faults, State.enterJoining_faults]
    exact h

theorem FaultRegister.ok.admission {s : State} (h : s.faults.ok) (sent : Bool) : (s.admission sent).faults.ok := by
  have hpeers : (s.peersUpdated sent).faults.ok := by
    rw [State.peersUpdated, (State.updatePeers_kept _).2.2.2.2.1, (State.adopt_kept _ _).2.1]
    exact h
  have hself : (s.selfTested sent).faults.ok := by
    unfold State.selfTested
    exact hpeers.testSelf ..
  rw [State.admission_eq]
  split
  · rw [State.deliver_faults, (State.claims_kept _).2.2.2.2.1]
    exact hself
  · exact hself

theorem FaultRegister.ok.after {s : State} (h : s.faults.ok) (c : Instr) : (s.after c).faults.ok := by
  cases c with
  | reset x low =>
    simp only [State.after, exec, execReset, State.atReset]
    split
    · exact FaultRegister.ok_set ..
    · exact iff_of_false (by decide) (by decide)
  | markRecognised m => exact keeps_iteB (P := fun x : State => x.faults.ok) (fun _ => h) fun _ => h.mark m
  | collisionJudgement =>
    exact keeps_ite (P := fun x : State => x.faults.ok) h fun _ =>
      FaultRegister.ok.raiseDuplicateId (s := { s with line.awaiting := false }) h
  | frameReceived frame =>
    simp only [State.after, exec, execFrameReceived]
    split
    · exact keeps_ite (P := fun x : State => x.faults.ok) h fun _ =>
        keeps_ite (P := fun x : State => x.faults.ok) h fun _ => FaultRegister.ok.raiseDuplicateId h
    all_goals exact h
  | close =>
    rcases s.after_close_cases with heq | ⟨-, heq⟩ <;> rw [heq]
    · exact h
    · exact FaultRegister.ok.admission (s := s.closed) h _
  | voteCompletion =>
    simp only [State.after, exec, execVoteCompletion]
    split
    · rw [State.completeVote_eq]
      have hback (v : VoteInFlight) : ((s.writtenBack v).emit (s.voteRecords v)).faults = s.faults := by
        rw [State.emit_faults, State.writtenBack, State.publishedIf]
        split <;> rfl
      split
      · rw [State.endVoteTest, State.emit_faults, State.endTest_faults, hback]
        exact h.endFaults _
      · rwa [hback]
    · exact h
  | noticeReceived frame =>
    refine keeps_ite (P := fun x : State => x.faults.ok) h fun _ => ?_
    simp only [State.receiveNotice]
    repeat' split
    · exact FaultRegister.ok.raiseDuplicateId (s := { s with line.receiver := .settled }) h
    · simpa using h
    · exact h
  | clearFaults =>
    refine keeps_ite (P := fun x : State => x.faults.ok) h fun _ => ?_
    rw [State.answer_faults, State.clearFaults, State.postFaultChange_faults]
    exact (FaultRegister.clear_flt _ _).2
  | restart =>
    refine keeps_ite (P := fun x : State => x.faults.ok) h fun _ => ?_
    have hrestart : s.restart.faults = if s.outOfRange then s.faults.set .strapRange else s.faults := by
      simp only [State.restart, State.emitTogether_faults, State.emit_faults]
    rw [State.answer_faults, hrestart]
    split
    · exact s.faults.ok_set _
    · exact h
  | _ => rwa [(s.after_keeps _).faults (by simp [touches])]

/-- Settles O56, block by block over the commands: the port (R144, R147, R148), the Notice Queue (R104, R109) and FLT
(R131). -/
theorem stepKeepsQueuesAndFaultLine : Obligations.StepKeepsQueuesAndFaultLine := by
  intro s t hport hnotices hfaults hstep
  refine step_keeps (P := fun x => x.portSound ∧ x.noticesSound ∧ x.faultLineSound) (fun x q h => h) (fun x h => h)
    (fun c x h => ?_) ⟨hport, hnotices, hfaults⟩ hstep
  obtain ⟨hp, hn, hf⟩ := h
  exact ⟨LocalPort.ok.after hp c, (State.noticesSound_iff_ok _).2 (((State.noticesSound_iff_ok x).1 hn).after c),
    FaultRegister.ok.after hf c⟩

end Sys2Proof.Machine
end

section
/-! SUPPORT. The Pulse Emulator, the Self-Test Unit, the Sensor Interface and the Epoch Buffer under every command (Chapters 4, 7, 9
and 10): what the end of a test makes of them, and the statements that every step keeps them in range. -/

namespace Sys2Proof.Machine

/-! ### The end of a test at the emulator and the sensor (R169, R170) -/

/-- The emulator after the ending effects of a test: only PULSE touches it. -/
def TestCode.endEmulator (c : TestCode) (e : PulseEmulator) : PulseEmulator := if c = .pulse then e.unhold else e

/-- The Sensor Interface after the ending effects of a test: only MONITOR touches it. -/
def TestCode.endSensor (c : TestCode) (x : SensorInterface) : SensorInterface :=
  if c = .monitor then { x with forced := 0 } else x

@[simp] theorem State.finishTest_emulator (s : State) (c : TestCode) (o : TestOutcome) :
    (s.finishTest c o).emulator = c.endEmulator s.emulator := by cases c <;> rfl

@[simp] theorem State.finishTest_sensor (s : State) (c : TestCode) (o : TestOutcome) :
    (s.finishTest c o).sensor = c.endSensor s.sensor := by cases c <;> rfl

@[simp] theorem State.endTest_emulator (s : State) (c : TestCode) (o : TestOutcome) :
    (s.endTest c o).emulator = c.endEmulator s.emulator := by
  cases o <;> simp [State.endTest]

@[simp] theorem State.endTest_sensor (s : State) (c : TestCode) (o : TestOutcome) :
    (s.endTest c o).sensor = c.endSensor s.sensor := by
  cases o <;> simp [State.endTest]

/-- The abort reaches no test and changes nothing, or ends the one in progress (R170). -/
theorem State.abortTest_cases (s : State) (why : AbortReason) :
    (∀ r ∈ s.tests.running, why.reaches r.code = false) ∧ s.abortTest why = s ∨
      ∃ r, s.tests.running = some r ∧ why.reaches r.code = true ∧
        s.abortTest why = s.finishTest r.code (.aborted why) := by
  unfold State.abortTest
  cases hr : s.tests.running with
  | none => exact .inl ⟨nofun, rfl⟩
  | some r =>
    cases hw : why.reaches r.code with
    | false => exact .inl ⟨by simpa using hw, by simp [hw]⟩
    | true => exact .inr ⟨r, rfl, hw, by simp [hw]⟩

/-- An entry to LOCKOUT before its abort of the test in progress (R100). -/
def State.lockedOut (s : State) : State :=
  let s1 := if s.member.ownBound then s.unbindOwn
    else { s with member.ownBound := false, member.ownRefused := false }
  { s1 with
    member.selfState := .lockout
    timer.position := .none
    timer.roundOpen := false
    timer.deadline := none
    line := { s1.line.clearNotices with receiver := .off, awaiting := false } }

theorem State.enterLockout_eq (s : State) : s.enterLockout = s.lockedOut.abortTest .lockout := rfl

@[simp] theorem State.lockedOut_kept (s : State) :
    s.lockedOut.clock = s.clock ∧ s.lockedOut.sensor = s.sensor ∧ s.lockedOut.faults = s.faults ∧
      s.lockedOut.store = s.store ∧ s.lockedOut.port = s.port ∧ s.lockedOut.emulator = s.emulator ∧
      s.lockedOut.tests = s.tests := by
  simp only [State.lockedOut]
  split <;> exact ⟨rfl, rfl, rfl, rfl, rfl, rfl, rfl⟩

/-! ### The Pulse Emulator (R153, R157, R158, R160) -/

/-- `State.emulatorSound` of an emulator. -/
def PulseEmulator.ok (e : PulseEmulator) : Prop :=
  e.counter < e.perTurn ∧ (∀ c ∈ e.testHold, c < e.perTurn) ∧
    (∀ em ∈ e.emission, em.emitted < em.planned ∧ em.planned ≤ 512 ∧ e.testHold = none) ∧
    e.enca = quadA e.counter ∧ e.encb = quadB e.counter ∧ e.encz = indexLevel e.state e.counter

theorem PulseEmulator.perTurn_pos (e : PulseEmulator) : 0 < e.perTurn := by
  have := (countsPerTurn_dvd e.res).1
  unfold PulseEmulator.perTurn
  omega

/-- The outputs brought to their levels are right whatever they were. -/
theorem PulseEmulator.ok_show {e : PulseEmulator} (hc : e.counter < e.perTurn) (ht : ∀ c ∈ e.testHold, c < e.perTurn)
    (hem : ∀ em ∈ e.emission, em.emitted < em.planned ∧ em.planned ≤ 512 ∧ e.testHold = none) : e.show.ok :=
  ⟨hc, ht, hem, rfl, rfl, rfl⟩

theorem PulseEmulator.ok.stop {e : PulseEmulator} (h : e.ok) : PulseEmulator.ok { e with emission := none } := by
  obtain ⟨hc, ht, -, ha, hb, hz⟩ := h
  exact ⟨hc, ht, nofun, ha, hb, hz⟩

theorem PulseEmulator.ok.unhold {e : PulseEmulator} (h : e.ok) : e.unhold.ok := by
  obtain ⟨hc, -, hem, -⟩ := id h
  unfold PulseEmulator.unhold
  split
  · exact PulseEmulator.ok_show hc nofun fun em he => ⟨(hem em he).1, (hem em he).2.1, rfl⟩
  · exact h

theorem PulseEmulator.ok.hold {e : PulseEmulator} (h : e.ok) : e.hold.ok := by
  obtain ⟨hc, -, -, hout⟩ := h
  exact ⟨hc, fun c hm => Option.some.inj hm ▸ hc, nofun, hout⟩

theorem PulseEmulator.ok.moveTest {e : PulseEmulator} (h : e.ok) (up : Bool) : (e.moveTest up).ok := by
  obtain ⟨hc, ht, hem, hout⟩ := h
  refine ⟨hc, fun c hm => ?_, fun em he => ⟨(hem em he).1, (hem em he).2.1, ?_⟩, hout⟩
  · obtain ⟨c', hc', rfl⟩ := Option.map_eq_some_iff.1 hm
    exact moveCount_lt _ _ _ _ (ht c' hc')
  · simp [PulseEmulator.moveTest, (hem em he).2.2]

theorem PulseEmulator.ok.endEmulator {e : PulseEmulator} (h : e.ok) (c : TestCode) : (c.endEmulator e).ok := by
  unfold TestCode.endEmulator
  split
  · exact h.unhold
  · exact h

theorem PulseEmulator.ok.restart {e : PulseEmulator} (h : e.ok) : e.restart.ok := by
  obtain ⟨hc, ht, hem, ha, hb, -⟩ := h.stop.unhold
  exact ⟨hc, ht, hem, ha, hb, rfl⟩

/-- The target of an angle is below C, which divides 65536 (R154). -/
theorem targetOf_lt (angle : Angle) {perTurn : Nat} (h : 0 < perTurn) : targetOf angle perTurn < perTurn := by
  unfold targetOf
  rw [Nat.div_lt_iff_lt_mul (by omega), Nat.mul_comm]
  exact Nat.mul_lt_mul_of_pos_left angle.isLt h

theorem PulseEmulator.ok.stepBy {e : PulseEmulator} (h : e.ok) (hhold : e.testHold = none) (d : Int) (now : Instant) :
    (e.stepBy d now).show.ok := by
  simp only [PulseEmulator.stepBy]
  split
  · next hd =>
    refine PulseEmulator.ok_show h.1 h.2.1 fun em he => ?_
    split at he
    · cases he
    · next hz =>
      obtain rfl := Option.some.inj he
      exact ⟨Int.natAbs_pos.2 hz, hd, hhold⟩
  · refine PulseEmulator.ok_show h.1 h.2.1 fun em he => ?_
    obtain rfl := Option.some.inj he
    exact ⟨Nat.zero_lt_succ 511, le_rfl, hhold⟩

theorem PulseEmulator.ok.publish {e : PulseEmulator} (h : e.ok) (row : PageRow) (now : Instant) :
    (e.publish row now).ok := by
  simp only [PulseEmulator.publish]
  split
  · exact h.stop
  · next hhold =>
    have hnone : e.testHold = none := by simpa using hhold
    have hstopped := h.stop
    simp only [PulseEmulator.takeRow]
    split
    · exact PulseEmulator.ok_show (targetOf_lt _ e.perTurn_pos) hstopped.2.1 nofun
    · exact hstopped
    · exact hstopped
    · exact hstopped.stepBy hnone _ _
    · exact hstopped.stepBy hnone _ _
    · exact hstopped.stepBy hnone _ _
    · exact hstopped.stepBy hnone _ _
    · exact PulseEmulator.ok_show h.1 h.2.1 nofun
    · exact PulseEmulator.ok_show h.1 h.2.1 nofun
    · exact hstopped.stepBy hnone _ _
    · exact hstopped
    · exact hstopped

theorem PulseEmulator.ok.edge {e : PulseEmulator} (h : e.ok) {em : Emission} (hem : e.emission = some em) :
    (e.edge em).ok := by
  obtain ⟨hc, ht, hemission, -⟩ := h
  obtain ⟨-, hplanned, hhold⟩ := hemission em hem
  refine PulseEmulator.ok_show (countStep_lt _ _ _ e.perTurn_pos) ht fun em' he => ?_
  simp only at he
  split at he
  · cases he
  · obtain rfl := Option.some.inj he
    exact ⟨Nat.lt_of_not_le ‹_›, hplanned, hhold⟩

theorem PulseEmulator.ok.abortTest {s : State} (h : s.emulator.ok) (why : AbortReason) :
    (s.abortTest why).emulator.ok := by
  rcases s.abortTest_cases why with ⟨-, heq⟩ | ⟨r, -, -, heq⟩ <;> rw [heq]
  · exact h
  · rw [State.finishTest_emulator]
    exact h.endEmulator _

theorem PulseEmulator.ok.enterLockout {s : State} (h : s.emulator.ok) : s.enterLockout.emulator.ok := by
  rw [State.enterLockout_eq]
  exact PulseEmulator.ok.abortTest (by simpa using h) _

theorem PulseEmulator.ok.raiseDuplicateId {s : State} (h : s.emulator.ok) : s.raiseDuplicateId.emulator.ok := by
  unfold State.raiseDuplicateId
  split
  · exact h
  · rw [State.emitTogether_emulator]
    exact PulseEmulator.ok.enterLockout (s := s.setFault .duplicateId) h

/-- A test step moves the test counter alone, and that under PULSE alone (R168). -/
theorem State.stepTest_emulator_cases (s : State) (r : TestRun) :
    (s.stepTest r).emulator = s.emulator ∨
      r.code = .pulse ∧ ∃ up, (s.stepTest r).emulator = s.emulator.moveTest up := by
  unfold State.stepTest
  cases hc : r.code with
  | inject | vote => exact .inl rfl
  | monitor => left; simp only; split <;> rfl
  | pulse =>
    simp only
    split
    · exact .inr ⟨trivial, true, rfl⟩
    · split
      · exact .inr ⟨trivial, false, rfl⟩
      · exact .inl rfl

theorem PulseEmulator.ok.testAtMark {s : State} (h : s.emulator.ok) (m : MarkInputs) :
    (s.testAtMark m).emulator.ok := by
  rw [State.testAtMark_eq]
  split
  · rw [State.endTest_emulator]
    exact h.endEmulator _
  · next r _ _ =>
    split
    · exact h
    · rcases s.stepTest_emulator_cases r with heq | ⟨-, up, heq⟩ <;> rw [heq]
      · exact h
      · exact h.moveTest up
  · exact h

theorem PulseEmulator.ok.mark {s : State} (h : s.emulator.ok) (m : MarkInputs) : (s.mark m).emulator.ok := by
  have hsensed : ((s.markSensed m).orderChosen m).emulator.ok := by
    have hkept : ((s.markSensed m).orderChosen m).emulator = s.emulator := (s.markSensed_kept m).2.2.2.2.2.1
    rwa [hkept]
  have htested : (s.markTested m).emulator.ok := by
    rw [State.markTested, State.markTestAndFaults_eq]
    split
    · rw [State.holdSensorFaults_emulator]
      exact hsensed.testAtMark m
    · exact PulseEmulator.ok.testAtMark (by rwa [State.holdSensorFaults_emulator]) m
  rw [State.mark_eq, State.emitTogether_emulator, State.markJoined]
  split
  · rw [s.markTested m |>.enterJoining_kept.2]
    exact htested
  · exact htested

theorem PulseEmulator.ok.testSelf {s : State} (h : s.emulator.ok) (before : SelfState) (sent adopted : Bool) :
    (s.testSelf before sent adopted).emulator.ok := by
  have htested := s.testSelf_tested before sent adopted
  generalize s.testSelf before sent adopted = t at htested
  cases htested with
  | same | listens | counts | unheard | activates | fails | falls => exact h
  | mismatch =>
    rw [State.mismatchLockout, State.emit_emulator, State.emit_emulator]
    exact PulseEmulator.ok.enterLockout h
  | joins =>
    rw [State.join, State.emit_emulator, (State.enterJoining_kept _).2]
    exact h

theorem State.peersUpdated_emulator (s : State) (sent : Bool) : (s.peersUpdated sent).emulator = s.emulator := by
  rw [State.peersUpdated, (State.updatePeers_kept _).2.2.2.2.2.2.1]
  cases s.adoption sent with
  | none => rfl
  | some e =>
    simp only [State.adopt]
    split
    · rw [State.emit_emulator, (State.enterJoining_kept _).2, State.emit_emulator]
    · rfl

theorem PulseEmulator.ok.admission {s : State} (h : s.emulator.ok) (sent : Bool) :
    (s.admission sent).emulator.ok := by
  have hpeers : (s.peersUpdated sent).emulator.ok := by rwa [s.peersUpdated_emulator sent]
  have hself : (s.selfTested sent).emulator.ok := by
    unfold State.selfTested
    exact hpeers.testSelf ..
  rw [State.admission_eq]
  split
  · rw [State.deliver_emulator, (State.claims_kept _).2.2.2.2.2.2.1]
    exact hself
  · exact hself

theorem PulseEmulator.ok.completeVote {s : State} (h : s.emulator.ok) (v : VoteInFlight) :
    (s.completeVote v).emulator.ok := by
  have hback : ((s.writtenBack v).emit (s.voteRecords v)).emulator.ok := by
    rw [State.emit_emulator, State.writtenBack]
    show (s.publishedIf v).emulator.ok
    unfold State.publishedIf
    exact keeps_ite (P := fun x : State => x.emulator.ok) h fun _ => h.publish ..
  rw [State.completeVote_eq]
  split
  · rw [State.endVoteTest, State.emit_emulator, State.endTest_emulator]
    exact hback.endEmulator _
  · exact hback

theorem PulseEmulator.ok_reset (res : BitVec 2) : PulseEmulator.ok { State.reset.emulator with res := res } :=
  ⟨PulseEmulator.perTurn_pos _, nofun, nofun, rfl, rfl, rfl⟩

theorem PulseEmulator.ok.after {s : State} (h : s.emulator.ok) (c : Instr) : (s.after c).emulator.ok := by
  cases c with
  | reset x low => exact PulseEmulator.ok_reset x.res
  | markRecognised m => exact keeps_iteB (P := fun x : State => x.emulator.ok) (fun _ => h) fun _ => h.mark m
  | collisionJudgement =>
    exact keeps_ite (P := fun x : State => x.emulator.ok) h fun _ =>
      PulseEmulator.ok.raiseDuplicateId (s := { s with line.awaiting := false }) h
  | frameReceived frame =>
    simp only [State.after, exec, execFrameReceived]
    split
    · exact keeps_ite (P := fun x : State => x.emulator.ok) h fun _ =>
        keeps_ite (P := fun x : State => x.emulator.ok) h fun _ => PulseEmulator.ok.raiseDuplicateId h
    all_goals exact h
  | close =>
    rcases s.after_close_cases with heq | ⟨-, heq⟩ <;> rw [heq]
    · exact h
    · exact PulseEmulator.ok.admission (s := s.closed) h _
  | voteCompletion =>
    simp only [State.after, exec, execVoteCompletion]
    split
    · exact h.completeVote _
    · exact h
  | emissionEdge =>
    simp only [State.after, exec, execEmissionEdge]
    split
    · next em hem => exact keeps_ite (P := fun x : State => x.emulator.ok) h fun _ => h.edge hem
    · exact h
  | noticeReceived frame =>
    refine keeps_ite (P := fun x : State => x.emulator.ok) h fun _ => ?_
    simp only [State.receiveNotice]
    repeat' split
    · exact PulseEmulator.ok.raiseDuplicateId (s := { s with line.receiver := .settled }) h
    · simpa using h
    · exact h
  | restart =>
    refine keeps_ite (P := fun x : State => x.emulator.ok) h fun _ => ?_
    rw [State.answer_emulator, s.restart_kept.2.2.2.2.2.1]
    exact h.restart
  | startTest code =>
    refine keeps_ite (P := fun x : State => x.emulator.ok) h fun _ => ?_
    have hstart (c : TestCode) : (s.startTest c).emulator.ok := by
      cases c with
      | pulse => exact h.hold
      | inject | monitor | vote =>
        simp only [State.startTest]
        split <;> exact h
    simp only [State.takeStartTest]
    repeat' split
    · exact h
    · exact h
    · exact h
    · exact hstart _
  | _ => rwa [(s.after_keeps _).emulator (by simp [touches])]

/-- Settles O57, over the commands that touch the emulator: publications, edges, and the hold of PULSE. -/
theorem stepKeepsEmulator : Obligations.StepKeepsEmulator := fun _ _ hs hstep =>
  step_keeps (P := State.emulatorSound) (fun _ _ h => h) (fun _ h => h) (fun c _ h => PulseEmulator.ok.after h c) hs hstep

end Sys2Proof.Machine
end

section
/-! SUPPORT. Every step keeps the Self-Test Unit, the Sensor Interface and the Epoch Buffer in range (R60, R75, R117, R121, R122,
R160, R163 to R171). -/

namespace Sys2Proof.Machine

/-! ### The Self-Test Unit and the Sensor Interface -/

/-- The tests and the sensor in range. -/
def State.testsOk (s : State) : Prop := s.testsSound ∧ s.sensorSound

theorem State.testsOk.congr {s t : State} (h : s.testsOk) (ht : t.tests = s.tests) (hs : t.sensor = s.sensor)
    (he : t.emulator.testHold.isSome = s.emulator.testHold.isSome) : t.testsOk := by
  unfold State.testsOk State.testsSound State.sensorSound at *
  rwa [ht, hs, he]

@[simp] theorem PulseEmulator.unhold_testHold (e : PulseEmulator) : e.unhold.testHold = none := by
  unfold PulseEmulator.unhold
  split
  · rfl
  · simpa using ‹¬ e.testHold.isSome = true›

theorem SelfTestUnit.runs_iff {t : SelfTestUnit} {r : TestRun} (h : t.running = some r) (c : TestCode) :
    t.runs c = true ↔ r.code = c := by
  simp [SelfTestUnit.runs, h]

theorem SelfTestUnit.runs_none {t : SelfTestUnit} (h : t.running = none) (c : TestCode) : t.runs c = false := by
  simp [SelfTestUnit.runs, h]

/-- The end of the test in progress takes its forced conditions and its hold with it (R169). -/
theorem State.testsOk.finishTest {s : State} (h : s.testsOk) {r : TestRun} (hr : s.tests.running = some r)
    (o : TestOutcome) (ho : o ≠ .running) : (s.finishTest r.code o).testsOk := by
  obtain ⟨⟨-, hforced, hhold, -⟩, hsensor⟩ := h
  refine ⟨⟨?_, ?_, ?_, ?_⟩, ?_⟩
  · simp
  · rw [State.finishTest_sensor, TestCode.endSensor]
    split
    · exact fun hne => absurd rfl hne
    · next hc => exact fun hne => absurd ((SelfTestUnit.runs_iff hr _).1 (hforced hne)) hc
  · rw [State.finishTest_emulator, State.finishTest_tests, TestCode.endEmulator, SelfTestUnit.runs_none rfl]
    split
    · simp
    · next hc =>
      rw [hhold, Bool.eq_false_iff]
      exact fun hp => hc ((SelfTestUnit.runs_iff hr _).1 hp)
  · simpa using ho
  · unfold State.sensorSound at hsensor ⊢
    rw [State.finishTest_sensor, TestCode.endSensor]
    split <;> exact hsensor

theorem State.testsOk.endTest {s : State} (h : s.testsOk) {r : TestRun} (hr : s.tests.running = some r)
    (o : TestOutcome) (ho : o ≠ .running) : (s.endTest r.code o).testsOk :=
  (h.finishTest hr o ho).congr (by simp) (by simp) (by simp)

theorem State.testsOk.abortTest {s : State} (h : s.testsOk) (why : AbortReason) : (s.abortTest why).testsOk := by
  rcases s.abortTest_cases why with ⟨-, heq⟩ | ⟨r, hr, -, heq⟩ <;> rw [heq]
  · exact h
  · exact h.finishTest hr _ nofun

theorem State.testsOk.enterLockout {s : State} (h : s.testsOk) : s.enterLockout.testsOk := by
  rw [State.enterLockout_eq]
  exact (h.congr (by simp) (by simp) (by simp)).abortTest _

theorem State.testsOk.raiseDuplicateId {s : State} (h : s.testsOk) : s.raiseDuplicateId.testsOk := by
  unfold State.raiseDuplicateId
  split
  · exact h
  · exact (State.testsOk.enterLockout (s := s.setFault .duplicateId) h).congr (by rw [State.emitTogether_tests])
      (by rw [State.emitTogether_sensor]) (by rw [State.emitTogether_emulator])

theorem State.testsOk.realign {s : State} (h : s.testsOk) : s.realign.testsOk := by
  obtain ⟨htests, -⟩ := h
  exact ⟨htests, Nat.zero_le _, Nat.zero_le _⟩

/-- An entry to JOINING at the Membership Unit alone (R92). -/
def State.asJoining (s : State) : State :=
  { s with
    member.selfState := .joining
    member.joinRun := 0
    member.joinEpochs := 0
    member.listenRun := if s.member.selfState == .listen then 0 else s.member.listenRun
    member.mismatchRun := if s.member.selfState == .listen then 0 else s.member.mismatchRun }

theorem State.enterJoining_eq (s : State) :
    s.enterJoining = ((s.asJoining.realign).abortTest .state).armDeadline := rfl

theorem State.testsOk.enterJoining {s : State} (h : s.testsOk) : s.enterJoining.testsOk := by
  rw [State.enterJoining_eq]
  exact ((State.testsOk.realign (s := s.asJoining) h).abortTest .state).congr (by simp) (by simp) (by simp)

/-- A test that goes on has marks to come: the last mark of its length always decides (R165, R166, R168). -/
theorem lt_length_of_testDecision {c : TestCode} (hc : c ≠ .vote) {k : Nat} {m : MarkInputs} {counter perTurn : Nat}
    (h : testDecision c k m counter perTurn = none) : k < c.length := by
  unfold testDecision at h
  unfold TestCode.length
  cases c with
  | vote => exact absurd rfl hc
  | inject | monitor =>
    simp only at h ⊢
    by_contra hk
    rw [if_pos (Nat.le_of_not_lt hk)] at h
    split at h <;> cases h
  | pulse =>
    simp only at h ⊢
    by_contra hk
    rw [if_neg (by omega), if_pos (Nat.le_of_not_lt hk)] at h
    split at h <;> cases h

theorem testDecision_ne_running {c : TestCode} {k : Nat} {m : MarkInputs} {counter perTurn : Nat} {o : TestOutcome}
    (h : testDecision c k m counter perTurn = some o) : o ≠ .running := by
  unfold testDecision at h
  rintro rfl
  split at h
  all_goals repeat' split at h
  all_goals cases h

theorem State.stepTest_sensor_eq (s : State) (r : TestRun) : (s.stepTest r).sensor =
    if r.code = .monitor ∧ (r.step + 1) % 2 = 0
    then { s.sensor with forced := condMask (monitorCond (r.step + 2)) } else s.sensor := by
  unfold State.stepTest
  cases hc : r.code with
  | inject | vote => rfl
  | monitor => simp only [true_and]; split <;> rfl
  | pulse => simp only [reduceCtorEq, false_and, if_false]; repeat' split
             all_goals rfl

theorem State.testsOk.stepTest {s : State} (h : s.testsOk) {r : TestRun} (hr : s.tests.running = some r)
    (hlt : r.step + 1 < r.code.length) : (s.stepTest r).testsOk := by
  obtain ⟨⟨hrange, hforced, hhold, hrunning⟩, hsensor⟩ := h
  obtain ⟨hstep, hleft⟩ := hrange r hr
  have hcode (c : TestCode) : (s.stepTest r).tests.runs c = s.tests.runs c := by
    simp [SelfTestUnit.runs, hr]
  refine ⟨⟨?_, ?_, ?_, ?_⟩, ?_⟩
  · intro r' hr'
    rw [State.stepTest_tests] at hr'
    obtain rfl := Option.some.inj hr'
    exact ⟨hlt, by simp only; omega⟩
  · rw [hcode, State.stepTest_sensor_eq]
    split
    · next hc => exact fun _ => (SelfTestUnit.runs_iff hr _).2 hc.1
    · exact hforced
  · rw [hcode, ← hhold]
    rcases s.stepTest_emulator_cases r with heq | ⟨-, up, heq⟩ <;> rw [heq]
    simp [PulseEmulator.moveTest]
  · rw [hr] at hrunning
    simpa using hrunning
  · unfold State.sensorSound at hsensor ⊢
    rw [State.stepTest_sensor_eq]
    split <;> exact hsensor

theorem State.testOutcomeAt_eq_some {s : State} {m : MarkInputs} {c : TestCode} {o : TestOutcome}
    (h : s.testOutcomeAt m = some (c, o)) : ∃ r, s.tests.running = some r ∧ c = r.code ∧
      testDecision r.code (r.step + 1) m s.emulator.counter s.emulator.perTurn = some o := by
  unfold State.testOutcomeAt at h
  split at h
  · next r hr =>
    obtain ⟨o', ho', heq⟩ := Option.map_eq_some_iff.1 h
    obtain ⟨rfl, rfl⟩ := Prod.mk.inj heq
    exact ⟨r, hr, rfl, ho'⟩
  · cases h

theorem State.testOutcomeAt_eq_none {s : State} {m : MarkInputs} {r : TestRun} (h : s.testOutcomeAt m = none)
    (hr : s.tests.running = some r) :
    testDecision r.code (r.step + 1) m s.emulator.counter s.emulator.perTurn = none := by
  simpa [State.testOutcomeAt, hr] using h

theorem State.testsOk.testAtMark {s : State} (h : s.testsOk) (m : MarkInputs) : (s.testAtMark m).testsOk := by
  rw [State.testAtMark_eq]
  split
  · next c o ho =>
    obtain ⟨r, hr, rfl, hd⟩ := State.testOutcomeAt_eq_some ho
    exact h.endTest hr o (testDecision_ne_running hd)
  · next r ho hr =>
    split
    · exact h
    · next hv => exact h.stepTest hr (lt_length_of_testDecision hv (State.testOutcomeAt_eq_none ho hr))
  · exact h

theorem convStep_count_le {m : MarkInputs} {conv : ConverterState} {count : Nat} (h : count ≤ 16) :
    (convStep m conv count).2 ≤ 16 := by
  unfold convStep
  repeat' split
  all_goals simp_all
  all_goals omega

theorem State.testsOk.markSensed {s : State} (h : s.testsOk) (m : MarkInputs) : (s.markSensed m).testsOk := by
  obtain ⟨-, -, -, -, -, hemulator, htests, hsensor⟩ := s.markSensed_kept m
  obtain ⟨hsound, hcount, hwindow⟩ := h
  refine ⟨?_, ?_⟩
  · unfold State.testsSound at hsound ⊢
    rw [htests, hemulator, hsensor]
    exact hsound
  · unfold State.sensorSound
    rw [hsensor]
    exact ⟨convStep_count_le hcount, windowStep_length _ _ _ _ _ hwindow⟩

theorem State.testsOk.mark {s : State} (h : s.testsOk) (m : MarkInputs) : (s.mark m).testsOk := by
  have hchosen : ((s.markSensed m).orderChosen m).testsOk := (h.markSensed m).congr rfl rfl rfl
  have hheld (x : State) (hx : x.testsOk) : x.holdSensorFaults.testsOk := hx.congr (by simp) (by simp) (by simp)
  have htested : (s.markTested m).testsOk := by
    rw [State.markTested, State.markTestAndFaults_eq]
    split
    · exact hheld _ (hchosen.testAtMark m)
    · exact (hheld _ hchosen).testAtMark m
  have hjoined : (s.markJoined m).testsOk := by
    unfold State.markJoined
    exact keeps_iteB (fun _ => htested.enterJoining) fun _ => htested
  rw [State.mark_eq]
  exact hjoined.congr (by rw [State.emitTogether_tests]) (by rw [State.emitTogether_sensor])
    (by rw [State.emitTogether_emulator])

theorem State.testsOk.emit {s : State} (h : s.testsOk) (es : List EventRecord) : (s.emit es).testsOk :=
  h.congr rfl rfl rfl

theorem State.testsOk.testSelf {s : State} (h : s.testsOk) (before : SelfState) (sent adopted : Bool) :
    (s.testSelf before sent adopted).testsOk := by
  have htested := s.testSelf_tested before sent adopted
  generalize s.testSelf before sent adopted = t at htested
  cases htested with
  | same | listens | counts | unheard | activates | fails | falls => exact h
  | mismatch =>
    have hcounted : ((s.countMismatch.setListenRun 0).setFault .planMismatch).testsOk := h
    exact (hcounted.enterLockout.emit _).emit _
  | joins =>
    have hcounted : s.countMismatch.testsOk := h
    exact hcounted.enterJoining.emit _

theorem State.testsOk.adopt {s : State} (h : s.testsOk) (e : Option Epoch) : (s.adopt e).testsOk := by
  cases e with
  | none => exact h
  | some e =>
    have hcounted : State.testsOk (({ s with timer.epoch := e } : State).emit [evPlain .resync e]) := h
    exact keeps_iteB (fun _ => hcounted.enterJoining.emit _) fun _ => hcounted

theorem State.testsOk.admission {s : State} (h : s.testsOk) (sent : Bool) : (s.admission sent).testsOk := by
  have hpeers : (s.peersUpdated sent).testsOk := (h.adopt (s.adoption sent)).congr (by simp [State.peersUpdated])
    (by simp [State.peersUpdated]) (by simp [State.peersUpdated])
  have hself : (s.selfTested sent).testsOk := by
    unfold State.selfTested
    exact hpeers.testSelf ..
  rw [State.admission_eq]
  refine keeps_iteB (fun _ => ?_) fun _ => hself
  exact hself.congr (by simp) (by simp) (by simp)

theorem voteTestOutcome_ne_running (p : Plan) : voteTestOutcome p ≠ .running := by
  unfold voteTestOutcome
  split <;> simp

theorem State.testsOk.completeVote {s : State} (h : s.testsOk) (v : VoteInFlight) : (s.completeVote v).testsOk := by
  have hpublish : (s.publishedIf v).testsOk := by
    refine keeps_ite h fun _ => h.congr rfl rfl ?_
    show (s.emulator.publish _ _).testHold.isSome = _
    simp only [PulseEmulator.publish, PulseEmulator.takeRow, PulseEmulator.stepBy]
    repeat' split
    all_goals rfl
  have hback : ((s.writtenBack v).emit (s.voteRecords v)).testsOk := hpublish.congr rfl rfl rfl
  rw [State.completeVote_eq]
  split
  · next hruns =>
    obtain ⟨r, hr, hcode⟩ : ∃ r, s.tests.running = some r ∧ r.code = .vote := by
      simpa [SelfTestUnit.runs] using hruns.2
    have htests : ((s.writtenBack v).emit (s.voteRecords v)).tests.running = some r := by
      rw [State.emit_tests, ← hr, State.writtenBack]
      show (s.publishedIf v).tests.running = _
      unfold State.publishedIf
      split <;> rfl
    rw [State.endVoteTest, ← hcode]
    exact (hback.endTest htests _ (voteTestOutcome_ne_running _)).emit _
  · exact hback

end Sys2Proof.Machine
end

section
/-! SUPPORT. The Self-Test Unit, the Sensor Interface and the Epoch Buffer over all commands. -/

namespace Sys2Proof.Machine

theorem State.restart_sensor_tests (s : State) :
    s.restart.sensor = (s.abortTest .restart).sensor ∧ s.restart.tests = (s.abortTest .restart).tests := by
  simp [State.restart]

/-- RESTART reaches every test, so none is in progress after its abort (R170). -/
theorem State.abortTest_restart_running (s : State) : (s.abortTest .restart).tests.running = none := by
  rcases s.abortTest_cases .restart with ⟨hnone, heq⟩ | ⟨r, -, -, heq⟩ <;> rw [heq]
  · rw [Option.eq_none_iff_forall_not_mem]
    exact fun r hr => absurd (hnone r hr) (by simp [AbortReason.reaches])
  · simp

theorem State.testsOk.restart {s : State} (h : s.testsOk) : s.restart.testsOk := by
  have haborted := h.abortTest .restart
  refine haborted.congr s.restart_sensor_tests.2 s.restart_sensor_tests.1 ?_
  have hhold : s.restart.emulator.testHold = none := by
    rw [s.restart_kept.2.2.2.2.2.1]
    exact PulseEmulator.unhold_testHold _
  rw [hhold, haborted.1.2.2.1, SelfTestUnit.runs_none s.abortTest_restart_running]
  rfl

theorem TestCode.length_pos (c : TestCode) : 0 < c.length := by cases c <;> decide

/-- What the start of a test posts (R164). -/
def startPosts (self : SelfState) (c : TestCode) : List (NoticeKind × Byte) :=
  if c.marksSample ∧ self = .active then [(.test, testStartArgument c)] else []

/-- The start of a test, block by block (R164). -/
theorem State.startTest_eq (s : State) (c : TestCode) : s.startTest c = { s with
    line := s.line.posted (startPosts s.member.selfState c)
    sensor := if c = .monitor then { s.sensor with forced := condMask .lossSin } else s.sensor
    emulator := if c = .pulse then s.emulator.hold else s.emulator
    tests := ⟨some ⟨c, 0, c.length⟩, some ⟨c, .running, none⟩⟩ } := by
  simp only [State.startTest, startPosts]
  by_cases hc : c.marksSample ∧ s.member.selfState = .active
  · simp only [if_pos hc]
    cases c <;> rfl
  · simp only [if_neg hc]
    cases c <;> rfl

/-- A test starts at step 0 with nothing forced and no hold before it (R164). -/
theorem State.testsOk.startTest {s : State} (h : s.testsOk) (hnone : s.tests.running = none) (c : TestCode) :
    (s.startTest c).testsOk := by
  obtain ⟨⟨-, hforced, hhold, -⟩, hsensor⟩ := h
  have hforced0 : s.sensor.forced = 0 := by
    by_contra hne
    simpa [SelfTestUnit.runs_none hnone] using hforced hne
  rw [SelfTestUnit.runs_none hnone] at hhold
  rw [State.startTest_eq]
  refine ⟨⟨?_, ?_, ?_, ?_⟩, ?_⟩
  · intro r hr
    obtain rfl := Option.some.inj hr
    exact ⟨c.length_pos, Nat.zero_add _⟩
  · cases c with
    | monitor => exact fun _ => rfl
    | inject | vote | pulse => exact fun hne => absurd hforced0 hne
  · cases c with
    | pulse => rfl
    | inject | monitor | vote => exact hhold
  · exact iff_of_true rfl rfl
  · unfold State.sensorSound at hsensor ⊢
    cases c <;> exact hsensor

theorem State.testsOk_reset (x : Straps) (low : Bool) (s : State) : (s.atReset x low).testsOk :=
  ⟨⟨nofun, fun h => absurd rfl h, rfl, by simp [State.atReset, State.reset]⟩, Nat.zero_le _, Nat.zero_le _⟩

theorem State.testsOk.after {s : State} (h : s.testsOk) (c : Instr) : (s.after c).testsOk := by
  cases c with
  | reset x low => exact State.testsOk_reset x low _
  | markRecognised m => exact keeps_iteB (fun _ => h) fun _ => h.mark m
  | slotBegin k =>
    refine keeps_ite h fun _ => ?_
    have hunder (x : State) (hx : x.testsOk) (b : Bool) : State.testsOk { x with sensor.underTest := b } := hx
    simp only [State.slotBegin]
    repeat' split
    all_goals exact h
  | collisionJudgement =>
    exact keeps_ite h fun _ => State.testsOk.raiseDuplicateId (s := { s with line.awaiting := false }) h
  | frameReceived frame =>
    simp only [State.after, exec, execFrameReceived]
    split
    · exact keeps_ite h fun _ => keeps_ite h fun _ => State.testsOk.raiseDuplicateId h
    all_goals exact h
  | close =>
    rcases s.after_close_cases with heq | ⟨-, heq⟩ <;> rw [heq]
    · exact h
    · exact State.testsOk.admission (s := s.closed) h _
  | voteCompletion =>
    simp only [State.after, exec, execVoteCompletion]
    split
    · exact h.completeVote _
    · exact h
  | emissionEdge =>
    simp only [State.after, exec, execEmissionEdge]
    split
    · exact keeps_ite h fun _ => h.congr rfl rfl rfl
    · exact h
  | noticeReceived frame =>
    refine keeps_ite h fun _ => ?_
    simp only [State.receiveNotice]
    repeat' split
    · exact State.testsOk.raiseDuplicateId (s := { s with line.receiver := .settled }) h
    · exact h.congr (by simp) (by simp) (by simp)
    · exact h
  | rejoin =>
    exact keeps_ite h fun _ => keeps_iteB (fun _ => h.enterJoining.congr rfl rfl rfl) fun _ => h
  | restart =>
    exact keeps_ite h fun _ => h.restart.congr (State.answer_tests ..) (State.answer_sensor ..)
      (by rw [State.answer_emulator])
  | startTest code =>
    refine keeps_ite h fun _ => ?_
    simp only [State.takeStartTest]
    split
    · exact h
    · refine keeps_iteB (fun _ => h) fun hr => keeps_iteB (fun _ => h) fun _ => ?_
      exact (h.startTest (by simpa using hr) _).congr rfl rfl rfl
  | clearResult =>
    refine keeps_ite h fun _ => keeps_iteB (fun _ => h) fun hr => ?_
    obtain ⟨⟨hrange, hforced, hhold, -⟩, hsensor⟩ := h
    exact ⟨⟨hrange, hforced, hhold, iff_of_false hr nofun⟩, hsensor⟩
  | _ => exact h.congr ((s.after_keeps _).tests (by simp [touches])) ((s.after_keeps _).sensor (by simp [touches]))
           (by rw [(s.after_keeps _).emulator (by simp [touches])])

/-! ### The Epoch Buffer (R60, R75) -/

/-- `State.bufferSound` of a line. -/
def LineController.ok (l : LineController) : Prop :=
  l.buffer.length = 16 ∧ l.counts.badCheck ≤ 16 ∧ l.counts.plan ≤ 16 ∧ l.counts.slot ≤ 16 ∧ l.counts.own ≤ 16

theorem LineController.ok.congr {l l' : LineController} (h : l.ok) (hb : l'.buffer.length = l.buffer.length)
    (hc : l'.counts = l.counts) : l'.ok := by
  unfold LineController.ok at *
  rwa [hb, hc]

theorem LineController.ok.drive {l : LineController} (h : l.ok) (cold : Bool) (now : Instant) : (l.drive cold now).ok := by
  unfold LineController.drive
  split
  · exact h
  · exact h

theorem LineController.ok.armDeadline {s : State} (h : s.line.ok) : s.armDeadline.line.ok := by
  rw [State.armDeadline_line]
  split
  · exact h.drive _ _
  · exact h

theorem LineController.ok.enterJoining {s : State} (h : s.line.ok) : s.enterJoining.line.ok := by
  rw [State.enterJoining_eq]
  exact LineController.ok.armDeadline (by rw [State.abortTest_line]; exact h)

theorem LineController.ok.raiseDuplicateId {s : State} (h : s.line.ok) : s.raiseDuplicateId.line.ok := by
  unfold State.raiseDuplicateId
  split
  · exact h
  · rw [State.emitTogether_line, State.enterLockout_line]
    exact h

theorem LineController.ok.testSelf {s : State} (h : s.line.ok) (before : SelfState) (sent adopted : Bool) :
    (s.testSelf before sent adopted).line.ok := by
  have htested := s.testSelf_tested before sent adopted
  generalize s.testSelf before sent adopted = t at htested
  cases htested with
  | same | listens | counts | unheard | activates | fails | falls => exact h
  | mismatch =>
    rw [State.mismatchLockout, State.emit_line, State.emit_line, State.enterLockout_line]
    exact h
  | joins =>
    rw [State.join, State.emit_line]
    exact LineController.ok.enterJoining (s := s.countMismatch) h

theorem LineController.ok.adopt {s : State} (h : s.line.ok) (e : Option Epoch) : (s.adopt e).line.ok := by
  cases e with
  | none => exact h
  | some e =>
    exact keeps_iteB (P := fun x : State => x.line.ok)
      (fun _ => LineController.ok.enterJoining (s := ({ s with timer.epoch := e } : State).emit [evPlain .resync e]) h)
      fun _ => h

theorem LineController.ok.admission {s : State} (h : s.line.ok) (sent : Bool) : (s.admission sent).line.ok := by
  have hpeers : (s.peersUpdated sent).line.ok := by
    rw [State.peersUpdated, (State.updatePeers_kept _).2.1]
    exact h.adopt _
  have hself : (s.selfTested sent).line.ok := by
    unfold State.selfTested
    exact hpeers.testSelf ..
  rw [State.admission_eq]
  split
  · rw [State.deliver_line, (State.claims_kept _).2.1]
    exact hself
  · exact hself

/-- The counts of a buffer of sixteen records are at most sixteen (R75). -/
theorem LineController.ok.close {l : LineController} (h : l.ok) : l.close.ok := by
  have hcount (r : InvalidReason) : countReason l.buffer r ≤ 16 := List.count_le_length.trans h.1.le
  exact ⟨h.1, hcount _, hcount _, hcount _, hcount _⟩

theorem LineController.ok.mark {s : State} (h : s.line.ok) (m : MarkInputs) : (s.mark m).line.ok := by
  have hsensed : ((s.markSensed m).orderChosen m).line.ok := by
    have hline : ((s.markSensed m).orderChosen m).line = (s.markSensed m).line := rfl
    rw [hline, State.markSensed_line]
    exact h.congr (by simp [LineController.atMark, h.1]) rfl
  have htested : (s.markTested m).line.ok := by
    rw [State.markTested, State.markTestAndFaults_eq]
    split
    · rw [State.holdSensorFaults_line, State.testAtMark_line]
      exact hsensed
    · rw [State.testAtMark_line, State.holdSensorFaults_line]
      exact hsensed
  rw [State.mark_eq, State.emitTogether_line, State.markJoined]
  split
  · exact htested.enterJoining
  · exact htested

theorem LineController.ok.after {s : State} (h : s.line.ok) (c : Instr) : (s.after c).line.ok := by
  cases c with
  | reset x low => exact ⟨rfl, Nat.zero_le _, Nat.zero_le _, Nat.zero_le _, Nat.zero_le _⟩
  | markRecognised m => exact keeps_iteB (P := fun x : State => x.line.ok) (fun _ => h) fun _ => h.mark m
  | markDeadline | listenTimeout =>
    exact keeps_ite (P := fun x : State => x.line.ok) h fun _ => h.drive _ _
  | markDriveRelease | ownFrameComplete | collision | syncFound | codingBroken | slotEnd _ | noticeFrameComplete
  | noticeCollision =>
    exact keeps_ite (P := fun x : State => x.line.ok) h fun _ => h
  | slotBegin k =>
    refine keeps_ite (P := fun x : State => x.line.ok) h fun _ => ?_
    simp only [State.slotBegin]
    repeat' split
    all_goals exact h
  | collisionJudgement =>
    exact keeps_ite (P := fun x : State => x.line.ok) h fun _ =>
      LineController.ok.raiseDuplicateId (s := { s with line.awaiting := false }) h
  | frameReceived frame =>
    simp only [State.after, exec, execFrameReceived]
    split
    · refine keeps_ite (P := fun x : State => x.line.ok) h fun _ => ?_
      have htaken (k : Station) (r : SlotRecord) :
          LineController.ok { s.line with buffer := s.line.buffer.set k.toNat r, receiver := .settled } :=
        h.congr (by simp) rfl
      exact keeps_iteB (P := fun x : State => x.line.ok)
        (fun _ => LineController.ok.raiseDuplicateId (htaken _ _)) fun _ => htaken _ _
    all_goals exact h
  | close =>
    rcases s.after_close_cases with heq | ⟨-, heq⟩ <;> rw [heq]
    · exact h
    · exact LineController.ok.admission (s := s.closed) h.close _
  | voteCompletion =>
    simp only [State.after, exec, execVoteCompletion]
    split
    · rw [State.completeVote_eq]
      have hback (v : VoteInFlight) : ((s.writtenBack v).emit (s.voteRecords v)).line = s.line := by
        rw [State.emit_line, State.writtenBack, State.publishedIf]
        split <;> rfl
      split
      · rw [State.endVoteTest, State.emit_line, State.endTest_line, hback]
        exact h
      · rwa [hback]
    · exact h
  | roundBegin j =>
    refine keeps_ite (P := fun x : State => x.line.ok) h fun _ => ?_
    simp only [State.roundBegin]
    repeat' split
    all_goals exact h
  | roundEnd j =>
    refine keeps_ite (P := fun x : State => x.line.ok) h fun _ => ?_
    simp only [State.roundEnd, State.emit_line]
    split <;> exact h
  | noticeReceived frame =>
    refine keeps_ite (P := fun x : State => x.line.ok) h fun _ => ?_
    simp only [State.receiveNotice]
    repeat' split
    · exact LineController.ok.raiseDuplicateId (s := { s with line.receiver := .settled }) h
    · rw [(State.takeNotice_kept _ _).2.1]
      exact h
    · exact h
  | clearFaults =>
    refine keeps_ite (P := fun x : State => x.line.ok) h fun _ => ?_
    rw [State.answer_line, State.clearFaults, State.postFaultChange_line]
    exact h
  | withdraw =>
    refine keeps_ite (P := fun x : State => x.line.ok) h fun _ =>
      keeps_iteB (P := fun x : State => x.line.ok) (fun _ => ?_) fun _ => h
    rw [State.answer_line, State.enterLeaving, State.emitTogether_line]
    exact h
  | rejoin =>
    refine keeps_ite (P := fun x : State => x.line.ok) h fun _ =>
      keeps_iteB (P := fun x : State => x.line.ok) (fun _ => ?_) fun _ => h
    rw [State.answer_line, State.emit_line]
    exact h.enterJoining
  | restart =>
    refine keeps_ite (P := fun x : State => x.line.ok) h fun _ => ?_
    rw [State.answer_line, s.restart_kept.2.1]
    exact ⟨rfl, Nat.zero_le _, Nat.zero_le _, Nat.zero_le _, Nat.zero_le _⟩
  | startTest code =>
    refine keeps_ite (P := fun x : State => x.line.ok) h fun _ => ?_
    have hstart (c : TestCode) : (s.startTest c).line.ok := by
      simp only [State.startTest]
      cases c <;> simp only <;> split <;> exact h
    simp only [State.takeStartTest]
    repeat' split
    · exact h
    · exact h
    · exact h
    · exact hstart _
  | postNotice value =>
    exact keeps_ite (P := fun x : State => x.line.ok) h fun _ =>
      keeps_iteB (P := fun x : State => x.line.ok) (fun _ => h) fun _ =>
        keeps_iteB (P := fun x : State => x.line.ok) (fun _ => h) fun _ => h
  | _ => rwa [(s.after_keeps _).line (by simp [touches])]

/-- Settles O60: a test, what it forces and what it holds go together through every step of a test, and the sensor's and
the buffer's ranges through every mark, frame and close. -/
theorem stepKeepsTestsAndSensor : Obligations.StepKeepsTestsAndSensor := by
  intro s t htests hsensor hbuffer hstep
  have hkept : t.testsOk ∧ t.line.ok :=
    step_keeps (P := fun x => x.testsOk ∧ x.line.ok) (fun _ _ h => h) (fun _ h => h)
      (fun c _ h => ⟨h.1.after c, LineController.ok.after h.2 c⟩) ⟨⟨htests, hsensor⟩, hbuffer⟩ hstep
  exact ⟨hkept.1.1, hkept.1.2, hkept.2⟩

end Sys2Proof.Machine
end

section
/-! SUPPORT. Every step keeps the runs of the Membership Unit and the Peer Table (R78, R84 to R86, R90 to R94). -/

namespace Sys2Proof.Machine

/-- `State.memberRunsSound` of the members. -/
def MembershipUnit.runsOk (m : MembershipUnit) : Prop :=
  m.listenRun ≤ 1 ∧ m.mismatchRun ≤ 8 ∧ m.joinRun ≤ 3 ∧ m.joinEpochs ≤ 16 ∧ m.unheardRun ≤ 3 ∧
    (m.selfState = .listen → m.mismatchRun ≤ 7) ∧ (m.selfState = .joining → m.joinRun ≤ 2 ∧ m.joinEpochs ≤ 15)

/-- An entry in its ranges, and ABSENT unless its station may be a peer. -/
def PeerEntry.ok (p : PeerEntry) (peers : Prop) : Prop :=
  p.heardRun ≤ 1 ∧ p.missRun ≤ 3 ∧ (p.state ≠ .absent → peers)

/-- Whether a station number may be a peer's: below N, and not the own one (R84). -/
def MembershipUnit.mayPeer (m : MembershipUnit) (n : Nat) (k : Station) : Prop := k ≠ m.ownStation ∧ k.toNat < n

/-- `State.peersSound` of the members under a plan's N, entry by entry. -/
def MembershipUnit.peersOk (m : MembershipUnit) (n : Nat) : Prop :=
  m.peers.length = 16 ∧ ∀ k, (m.peer k).ok (m.mayPeer n k)

theorem MembershipUnit.mem_peers_iff {m : MembershipUnit} (hlen : m.peers.length = 16) (p : PeerEntry) :
    p ∈ m.peers ↔ ∃ k : Station, m.peer k = p := by
  have hpeer (k : Station) : m.peer k = m.peers[k.toNat]'(hlen ▸ k.isLt) := by
    simp [MembershipUnit.peer, List.getD_eq_getElem?_getD, hlen, k.isLt]
  constructor
  · intro hp
    obtain ⟨i, hi, rfl⟩ := List.mem_iff_getElem.1 hp
    refine ⟨BitVec.ofNat 4 i, ?_⟩
    rw [hpeer]
    congr
    simp only [BitVec.toNat_ofNat]
    omega
  · rintro ⟨k, rfl⟩
    rw [hpeer]
    exact List.getElem_mem _

theorem State.peersSound_iff_ok (s : State) : s.peersSound ↔ s.member.peersOk s.plan.n := by
  unfold State.peersSound MembershipUnit.peersOk
  constructor
  · rintro ⟨hlen, hruns, hown, hrange⟩
    refine ⟨hlen, fun k => ?_⟩
    obtain ⟨hheard, hmiss⟩ := hruns _ ((MembershipUnit.mem_peers_iff hlen _).2 ⟨k, rfl⟩)
    refine ⟨hheard, hmiss, fun hst => ⟨?_, ?_⟩⟩
    · rintro rfl
      exact hst hown
    · by_contra hn
      exact hst (hrange k (Nat.le_of_not_lt hn))
  · rintro ⟨hlen, h⟩
    refine ⟨hlen, fun p hp => ?_, ?_, fun k hk => ?_⟩
    · obtain ⟨k, rfl⟩ := (MembershipUnit.mem_peers_iff hlen _).1 hp
      exact ⟨(h k).1, (h k).2.1⟩
    · by_contra hst
      exact ((h _).2.2 hst).1 rfl
    · by_contra hst
      exact absurd ((h k).2.2 hst).2 (Nat.not_lt.2 hk)

/-- The entries depend on the peers and the own number alone. -/
theorem MembershipUnit.peersOk.congr {m m' : MembershipUnit} {n : Nat} (h : m.peersOk n) (hp : m'.peers = m.peers)
    (ho : m'.ownStation = m.ownStation) : m'.peersOk n := by
  unfold MembershipUnit.peersOk MembershipUnit.mayPeer MembershipUnit.peer at *
  rwa [hp, ho]

theorem MembershipUnit.peersOk.setPeer {m : MembershipUnit} {n : Nat} (h : m.peersOk n) {k : Station} {p : PeerEntry}
    (hp : p.ok (m.mayPeer n k)) : (m.setPeer k p).peersOk n := by
  refine ⟨(m.setPeer_length k p).trans h.1, fun j => ?_⟩
  rw [MembershipUnit.peer_setPeer h.1]
  split
  · next hj => exact hj ▸ hp
  · exact h.2 j

/-- A cleared table is in range. -/
theorem MembershipUnit.peersOk_cleared {m : MembershipUnit} (n : Nat) (h : m.peers = List.replicate 16 PeerEntry.cleared) :
    m.peersOk n := by
  refine ⟨by simp [h], fun k => ?_⟩
  have hcleared : m.peer k = PeerEntry.cleared := by
    rw [MembershipUnit.peer, h]
    exact List.getD_replicate _ (BitVec.isLt _)
  rw [hcleared]
  exact ⟨Nat.zero_le _, Nat.zero_le _, fun hst => absurd rfl hst⟩

/-- The members in range. -/
def State.membersOk (s : State) : Prop := s.member.runsOk ∧ s.member.peersOk s.plan.n

theorem State.membersOk.congr {s t : State} (h : s.membersOk) (hm : t.member = s.member) (hp : t.timer.plan = s.timer.plan) :
    t.membersOk := by
  unfold State.membersOk State.plan at *
  rwa [hm, hp]

/-! ### The Peer Table at a close (R85 to R87) -/

theorem PeerEntry.ok.hear {p : PeerEntry} {b : Prop} (h : p.ok b) (hb : b) (f : FrameRecord) : (p.heardAs f).ok b := by
  obtain ⟨hheard, hmiss, -⟩ := h
  have hmoved : (p.moveAxis f).heardRun = p.heardRun ∧ (p.moveAxis f).missRun = p.missRun := by
    unfold PeerEntry.moveAxis
    repeat' split
    all_goals exact ⟨rfl, rfl⟩
  have hadvanced : (p.moveAxis f).advance.heardRun ≤ 1 ∧ (p.moveAxis f).advance.missRun ≤ 3 := by
    unfold PeerEntry.advance
    split <;> simp only <;> omega
  exact ⟨hadvanced.1, hadvanced.2, fun _ => hb⟩

theorem PeerEntry.ok_lose (p : PeerEntry) (b : Prop) : p.lose.ok b :=
  ⟨Nat.zero_le _, Nat.zero_le _, fun hst => absurd rfl hst⟩

/-- The members with one entry replaced are in range when the entry is. -/
theorem State.membersOk.setPeer {s t : State} (h : s.membersOk) {k : Station} {p : PeerEntry}
    (hp : p.ok (s.member.mayPeer s.plan.n k)) (hm : t.member = s.member.setPeer k p) (ht : t.timer.plan = s.timer.plan) :
    t.membersOk := by
  unfold State.membersOk State.plan at *
  rw [hm, ht]
  exact ⟨h.1, h.2.setPeer hp⟩

theorem State.membersOk.updatePeer {s : State} (h : s.membersOk) (k : Station) : (s.updatePeer k).membersOk := by
  have hentry := h.2.2 k
  unfold State.updatePeer
  split
  · exact h
  · next hk =>
    have hpeer : s.member.mayPeer s.plan.n k := by
      rw [not_or] at hk
      exact ⟨hk.1, Nat.lt_of_not_le hk.2⟩
    split
    · next f _ =>
      exact h.setPeer (hentry.hear hpeer f) (s.hearPeer_kept k f).1 (by simp)
    · simp only [State.missPeer]
      split
      · exact h
      · exact h.setPeer (PeerEntry.ok_lose _ _) rfl rfl
      · exact h.setPeer (p := { s.member.peer k with state := .silent, missRun := 1 })
          ⟨hentry.1, (by decide : 1 ≤ 3), fun _ => hpeer⟩ rfl rfl
      · split
        · split
          · exact h.setPeer (PeerEntry.ok_lose (s.member.peer k) _) rfl rfl
          · exact h.setPeer (PeerEntry.ok_lose (s.member.peer k) _) rfl rfl
        · next hlt =>
          exact h.setPeer (p := { s.member.peer k with missRun := (s.member.peer k).missRun + 1 })
            ⟨hentry.1, Nat.le_of_lt_succ (Nat.lt_of_not_le hlt), fun _ => hpeer⟩ rfl rfl

theorem State.membersOk.claim {s : State} (h : s.membersOk) (k : Station) : (s.claim k).membersOk := by
  unfold State.claim
  split
  · refine keeps_ite h fun _ => ?_
    have hanswered : (s.member.answered s.ownClaim.2.1).runsOk ∧
        (s.member.answered s.ownClaim.2.1).peersOk s.plan.n := by
      cases s.ownClaim.2.1 <;> exact h
    rw [State.claimOwn_eq]
    exact hanswered
  · refine keeps_ite h fun _ => ?_
    rw [State.claimPeer_eq]
    refine h.setPeer (p := (s.member.peer k).answered (s.peerClaim k).2.1) ?_ rfl rfl
    cases (s.peerClaim k).2.1 <;> exact h.2.2 k

/-! ### The changes of the self state -/

theorem State.membersOk.enterJoining {s : State} (h : s.membersOk) : s.enterJoining.membersOk := by
  obtain ⟨⟨hlisten, hmismatch, -, -, hunheard, -, -⟩, hpeers⟩ := h
  unfold State.membersOk State.plan
  rw [State.enterJoining_member, State.enterJoining_timer]
  refine ⟨⟨?_, ?_, Nat.zero_le _, Nat.zero_le _, hunheard, nofun, fun _ => ⟨Nat.zero_le _, Nat.zero_le _⟩⟩,
    hpeers.congr rfl rfl⟩
  · simp only; split <;> omega
  · simp only; split <;> omega

/-- A change to a self state that tests no run of joining or listening, the runs kept. -/
theorem MembershipUnit.runsOk.setSelf {m : MembershipUnit} (h : m.runsOk) {st : SelfState} (hl : st ≠ .listen)
    (hj : st ≠ .joining) : MembershipUnit.runsOk { m with selfState := st } := by
  obtain ⟨hlisten, hmismatch, hjoin, hepochs, hunheard, -, -⟩ := h
  exact ⟨hlisten, hmismatch, hjoin, hepochs, hunheard, fun h => absurd h hl, fun h => absurd h hj⟩

theorem State.membersOk.enterLockout {s : State} (h : s.membersOk) : s.enterLockout.membersOk := by
  unfold State.membersOk State.plan
  rw [State.enterLockout_member, State.enterLockout_timer]
  exact ⟨h.1.setSelf (st := .lockout) nofun nofun, h.2.congr rfl rfl⟩

theorem State.membersOk.raiseDuplicateId {s : State} (h : s.membersOk) : s.raiseDuplicateId.membersOk := by
  unfold State.raiseDuplicateId
  refine keeps_iteB (fun _ => h) fun _ => ?_
  exact (State.membersOk.enterLockout (s := s.setFault .duplicateId) h).congr (State.emitTogether_member ..)
    (by rw [State.emitTogether_timer])

theorem State.membersOk_fallToListen (s : State) : s.fallToListen.membersOk :=
  ⟨⟨Nat.zero_le _, Nat.zero_le _, Nat.zero_le _, Nat.zero_le _, Nat.zero_le _, fun _ => Nat.zero_le _, nofun⟩,
    MembershipUnit.peersOk_cleared _ rfl⟩

/-- The plan-mismatch run after a close in LISTEN (R91). -/
theorem State.countMismatch_run_le {s : State} (h : s.member.mismatchRun ≤ 7) :
    s.countMismatch.member.mismatchRun ≤ 8 := by
  simp only [State.countMismatch]
  split
  · omega
  · exact Nat.zero_le _

theorem State.membersOk.testSelf {s : State} (h : s.membersOk) (before : SelfState) (sent adopted : Bool) :
    (s.testSelf before sent adopted).membersOk := by
  obtain ⟨⟨hlisten, hmismatch, hjoin, hepochs, hunheard, hinlisten, hinjoining⟩, hpeers⟩ := id h
  have htested := s.testSelf_tested before sent adopted
  generalize s.testSelf before sent adopted = t at htested
  cases htested with
  | same => exact h
  | mismatch hst =>
    have hlocked : ((s.countMismatch.setListenRun 0).setFault .planMismatch).enterLockout.membersOk := by
      unfold State.membersOk State.plan
      rw [State.enterLockout_member, State.enterLockout_timer]
      exact ⟨⟨Nat.zero_le _, State.countMismatch_run_le (hinlisten hst), hjoin, hepochs, hunheard, nofun, nofun⟩,
        hpeers.congr rfl rfl⟩
    exact hlocked
  | joins hst hrun =>
    have hcounted : s.countMismatch.membersOk :=
      ⟨⟨hlisten, hrun.le, hjoin, hepochs, hunheard, fun _ => Nat.le_of_lt_succ hrun, hinjoining⟩, hpeers.congr rfl rfl⟩
    exact hcounted.enterJoining
  | listens hst hrun n hn =>
    exact ⟨⟨hn, hrun.le, hjoin, hepochs, hunheard, fun _ => Nat.le_of_lt_succ hrun, hinjoining⟩, hpeers.congr rfl rfl⟩
  | activates hst run hrun =>
    obtain ⟨hj2, he15⟩ := hinjoining hst
    exact ⟨⟨hlisten, hmismatch, hrun.trans (Nat.succ_le_succ hj2), Nat.succ_le_succ he15, Nat.zero_le _, nofun, nofun⟩,
      hpeers.congr rfl rfl⟩
  | fails | falls => exact State.membersOk_fallToListen _
  | counts hst run hrun hcount =>
    exact ⟨⟨hlisten, hmismatch, hrun.le, hcount.le, hunheard, hinlisten,
      fun _ => ⟨Nat.le_of_lt_succ hrun, Nat.le_of_lt_succ hcount⟩⟩, hpeers.congr rfl rfl⟩
  | unheard hst n hn =>
    exact ⟨⟨hlisten, hmismatch, hjoin, hepochs, Nat.le_of_lt_succ hn, hinlisten, hinjoining⟩, hpeers.congr rfl rfl⟩

theorem State.membersOk.adopt {s : State} (h : s.membersOk) (e : Option Epoch) : (s.adopt e).membersOk := by
  cases e with
  | none => exact h
  | some e =>
    have hcounted : State.membersOk (({ s with timer.epoch := e } : State).emit [evPlain .resync e]) := h
    exact keeps_iteB (fun _ => hcounted.enterJoining) fun _ => hcounted

theorem State.membersOk.admission {s : State} (h : s.membersOk) (sent : Bool) : (s.admission sent).membersOk := by
  have hpeers : (s.peersUpdated sent).membersOk := by
    unfold State.peersUpdated State.updatePeers
    exact foldl_keeps (fun _ k hx => hx.updatePeer k) (h.adopt _) _
  have hself : (s.selfTested sent).membersOk := by
    unfold State.selfTested
    exact hpeers.testSelf ..
  have hclaims : (s.selfTested sent).claims.membersOk := by
    unfold State.claims
    exact foldl_keeps (fun _ k hx => hx.claim k) hself _
  rw [State.admission_eq]
  exact keeps_iteB (fun _ => hclaims.congr (State.deliver_member ..) (by rw [State.deliver_timer])) fun _ => hself

/-! ### The other commands -/

theorem State.membersOk.takeNotice {s : State} (h : s.membersOk) (f : NoticeFields) : (s.takeNotice f).membersOk := by
  have hentry := h.2.2 f.station
  simp only [State.takeNotice]
  split
  · simp only [State.takeLeave]
    refine keeps_iteB (fun _ => h) fun _ => keeps_iteB (fun _ => ?_) fun _ => ?_
    · exact h.setPeer (PeerEntry.ok_lose (s.member.peer f.station) _) rfl rfl
    · exact h.setPeer (PeerEntry.ok_lose (s.member.peer f.station) _) rfl rfl
  · exact h.setPeer (p := { s.member.peer f.station with reported := reportedOf f.argument }) hentry rfl rfl
  · exact h.setPeer (p := { s.member.peer f.station with testReport := some (testReportOf f.argument) }) hentry rfl rfl
  · exact h

theorem State.membersOk.mark {s : State} (h : s.membersOk) (m : MarkInputs) : (s.mark m).membersOk := by
  have htested : (s.markTested m).membersOk := by
    have hplan : (s.markTested m).timer.plan = s.timer.plan := by
      rw [(s.markTested_kept m).2.1, s.markSensed_timer]
    unfold State.membersOk State.plan
    rw [(s.markTested_kept m).2.2.1, s.markSensed_member, hplan]
    split
    · exact ⟨h.1.setSelf nofun nofun, h.2.congr rfl rfl⟩
    · exact h
  have hjoined : (s.markJoined m).membersOk := by
    unfold State.markJoined
    exact keeps_iteB (fun _ => htested.enterJoining) fun _ => htested
  rw [State.mark_eq]
  exact hjoined.congr (State.emitTogether_member ..) (by rw [State.emitTogether_timer])

theorem State.membersOk.after {s : State} (h : s.membersOk) (c : Instr) : (s.after c).membersOk := by
  cases c with
  | reset x low =>
    refine ⟨⟨Nat.zero_le _, Nat.zero_le _, Nat.zero_le _, Nat.zero_le _, Nat.zero_le _, fun _ => Nat.zero_le _, ?_⟩,
      MembershipUnit.peersOk_cleared _ rfl⟩
    exact fun _ => ⟨Nat.zero_le _, Nat.zero_le _⟩
  | markRecognised m => exact keeps_iteB (fun _ => h) fun _ => h.mark m
  | slotBegin k =>
    refine keeps_ite h fun _ => ?_
    exact h.congr (s.slotBegin_kept k).2.1 (by simp only [State.slotBegin]; repeat' split
                                               all_goals rfl)
  | collisionJudgement =>
    exact keeps_ite h fun _ => State.membersOk.raiseDuplicateId (s := { s with line.awaiting := false }) h
  | frameReceived frame =>
    simp only [State.after, exec, execFrameReceived]
    split
    · exact keeps_ite h fun _ => keeps_ite h fun _ => State.membersOk.raiseDuplicateId h
    all_goals exact h
  | close =>
    rcases s.after_close_cases with heq | ⟨-, heq⟩ <;> rw [heq]
    · exact h
    · exact State.membersOk.admission (s := s.closed) h _
  | roundBegin j =>
    refine keeps_ite h fun _ => ?_
    simp only [State.roundBegin]
    repeat' split
    all_goals exact h
  | roundEnd j =>
    refine keeps_ite h fun _ => ?_
    simp only [State.roundEnd]
    split
    · exact ⟨h.1.setSelf (st := .withdrawn) nofun nofun, h.2.congr rfl rfl⟩
    · exact h
  | noticeReceived frame =>
    refine keeps_ite h fun _ => ?_
    simp only [State.receiveNotice]
    refine keeps_iteB (fun _ => keeps_iteB (fun _ => ?_) fun _ => ?_) fun _ => h
    · exact State.membersOk.raiseDuplicateId (s := { s with line.receiver := .settled }) h
    · exact State.membersOk.takeNotice (s := { s with line.receiver := .settled }) h _
  | withdraw =>
    refine keeps_ite h fun _ => keeps_iteB (fun _ => ?_) fun _ => h
    refine State.membersOk.congr (s := { s with member := { s.unbindOwn.member with selfState := .leaving } })
      ⟨h.1.setSelf (st := .leaving) nofun nofun, h.2.congr rfl rfl⟩ ?_ ?_
    · simp only [State.answer_member, State.enterLeaving, State.emitTogether_member]
      rfl
    · simp only [State.answer_timer, State.enterLeaving, State.emitTogether_timer]
      rfl
  | rejoin => exact keeps_ite h fun _ => keeps_iteB (fun _ => h.enterJoining) fun _ => h
  | restart =>
    refine keeps_ite h fun _ => ?_
    have hrestart : s.restart.membersOk := by
      have hmember : s.restart.member = { s.member with
          selfState := if s.outOfRange then .lockout else .listen
          listenRun := 0
          mismatchRun := 0
          joinRun := 0
          joinEpochs := 0
          unheardRun := 0
          ownBound := false
          ownRefused := false
          peers := List.replicate 16 PeerEntry.cleared } := by
        simp only [State.restart, State.emitTogether_member, State.emit_member]
      unfold State.membersOk
      rw [hmember]
      exact ⟨⟨Nat.zero_le _, Nat.zero_le _, Nat.zero_le _, Nat.zero_le _, Nat.zero_le _, fun _ => Nat.zero_le _,
        fun _ => ⟨Nat.zero_le _, Nat.zero_le _⟩⟩, MembershipUnit.peersOk_cleared _ rfl⟩
    exact hrestart.congr (State.answer_member ..) (by rw [State.answer_timer])
  | _ => exact h.congr ((s.after_keeps _).member (by simp [touches])) (by rw [(s.after_keeps _).timer (by simp [touches])])

/-- Settles O59, entry by entry and run by run over the changes of the self state. -/
theorem stepKeepsMembership : Obligations.StepKeepsMembership := by
  intro s t hruns hpeers hstep
  have hkept : t.membersOk :=
    step_keeps (P := State.membersOk) (fun _ _ h => h) (fun _ h => h) (fun c _ h => h.after c)
      ⟨hruns, (s.peersSound_iff_ok).1 hpeers⟩ hstep
  exact ⟨hkept.1, (t.peersSound_iff_ok).2 hkept.2⟩

end Sys2Proof.Machine
end

section
/-! SUPPORT. The queue and the clock (log 1, log 2, R44), events that the part does not raise (R51, R52, R148), and the state
after RESET. -/

namespace Sys2Proof.Machine

/-- Settles O1. -/
theorem stepTakesFrontCommand : Obligations.StepTakesFrontCommand := fun _ _ _ h => step_of_cons h

/-- Settles O2. -/
theorem emptyQueueStepCountsOneBitTime : Obligations.EmptyQueueStepCountsOneBitTime := by
  intro s hs
  have hdue : s.tick = { s.count with pending := s.count.due } := by
    rw [State.tick, hs, List.nil_append]
  rw [step_of_nil hs, hdue]
  rfl

/-- Settles O5: every command answers a next state, and no command touches the queue. -/
theorem everyCommandCompletes : Obligations.EveryCommandCompletes := fun c s =>
  ⟨s.after c, exec_eq_next c s, s.after_pending c⟩

/-! ### Events not raised (R51, R52, R148) -/

theorem State.reached_eq_false {s : State} {o : Instant} (ho : s.timer.origin = some o) {time : Nat}
    (h : s.clock < o + time) : s.reached time = false := by
  rw [Bool.eq_false_iff, Ne, State.reached_iff, ho]
  rintro ⟨o', ho', hle⟩
  obtain rfl := Option.some.inj ho'
  exact absurd hle (Int.not_le.2 h)

theorem slotTime_eq (k : Nat) : slotTime k = 16 + 144 * k := rfl

theorem roundTime_eq (n j : Nat) : roundTime n j = 16 + 144 * n + 32 + 64 * j := rfl

theorem State.drawn_eq_false {s : State} (h : s.timer.markSeen = false ∨ s.member.selfState = .lockout) :
    s.drawn = false := by
  rw [Bool.eq_false_iff, Ne, State.drawn_iff]
  rintro ⟨hseen, hself⟩
  rcases h with h | h
  · rw [h] at hseen; cases hseen
  · exact hself h

/-- While no schedule is drawn, or before its time, an event of Table 3-3 leaves the state as it is. -/
theorem exec_slotBegin_of_not {k : Station} {s : State} (h : s.drawn = false ∨ s.reached (slotTime k.toNat) = false) :
    exec (.slotBegin k) s = .next s := by
  have hdue : s.slotDue k = false := by rcases h with h | h <;> simp [State.slotDue, h]
  exact congrArg Host.Outcome.next (if_neg (by simp [hdue]))

theorem exec_slotEnd_of_not {k : Station} {s : State}
    (h : s.drawn = false ∨ s.reached (slotTime (k.toNat + 1)) = false) : exec (.slotEnd k) s = .next s :=
  congrArg Host.Outcome.next (if_neg (by rcases h with h | h <;> simp [h]))

theorem exec_close_of_not {s : State} (h : s.drawn = false ∨ s.reached (closeTime s.plan.n) = false) :
    exec .close s = .next s :=
  congrArg Host.Outcome.next (if_neg (by rcases h with h | h <;> simp [h]))

theorem exec_roundBegin_of_not {j : RoundNumber} {s : State}
    (h : s.drawn = false ∨ s.reached (roundTime s.plan.n j.toNat) = false) : exec (.roundBegin j) s = .next s := by
  have hdue : s.roundDue j = false := by rcases h with h | h <;> simp [State.roundDue, h]
  exact congrArg Host.Outcome.next (if_neg (by simp [hdue]))

theorem exec_roundEnd_of_not {j : RoundNumber} {s : State}
    (h : s.drawn = false ∨ s.reached (roundTime s.plan.n (j.toNat + 1)) = false) :
    exec (.roundEnd j) s = .next s :=
  congrArg Host.Outcome.next (if_neg (by rcases h with h | h <;> simp [h]))

/-- Nothing is received while no schedule is drawn (R52). -/
theorem exec_reception_of_undrawn {s : State} (h : s.drawn = false) :
    (∀ f, exec (.frameReceived f) s = .next s) ∧ (∀ f, exec (.noticeReceived f) s = .next s) ∧
      exec .syncFound s = .next s ∧ exec .codingBroken s = .next s := by
  have hreceiving : s.receiving = false := by simp [State.receiving, h]
  refine ⟨fun f => congrArg Host.Outcome.next ?_, fun f => congrArg Host.Outcome.next (if_neg (by simp [h])),
    congrArg Host.Outcome.next (if_neg (by simp [hreceiving])),
    congrArg Host.Outcome.next (if_neg (by simp [hreceiving]))⟩
  split
  · exact if_neg (by simp [h])
  all_goals rfl

/-- No command is taken outside a transaction (R148). -/
theorem State.takes_of_closed {s : State} (h : s.port.txn = .closed) (c : LocalCommand) : s.takes c = false := by
  simp [State.takes, h]

theorem exec_commandByte_of_not {s : State} {b : Byte} (h : s.port.txn ≠ .command) :
    exec (.commandByte b) s = .next s := by
  refine congrArg Host.Outcome.next ?_
  split
  · exact if_neg fun hc => h hc.1
  · rfl

/-- Settles O6, from the guard of each event. -/
theorem unraisedEventsChangeNothing : Obligations.UnraisedEventsChangeNothing := by
  refine ⟨fun c s hundrawn hc => ?_, fun s o ho => ⟨fun k hk => ?_, fun k hk => ?_, fun h => ?_, fun j hj => ?_,
    fun j hj => ?_⟩, fun c s hclosed hc => ?_⟩
  · have hdrawn := State.drawn_eq_false hundrawn
    obtain ⟨hframe, hnotice, hsync, hbroken⟩ := exec_reception_of_undrawn hdrawn
    rcases hc with ⟨k, rfl⟩ | ⟨k, rfl⟩ | rfl | ⟨j, rfl⟩ | ⟨j, rfl⟩ | ⟨f, rfl⟩ | ⟨f, rfl⟩ | rfl | rfl
    · exact exec_slotBegin_of_not (.inl hdrawn)
    · exact exec_slotEnd_of_not (.inl hdrawn)
    · exact exec_close_of_not (.inl hdrawn)
    · exact exec_roundBegin_of_not (.inl hdrawn)
    · exact exec_roundEnd_of_not (.inl hdrawn)
    · exact hframe f
    · exact hnotice f
    · exact hsync
    · exact hbroken
  · exact exec_slotBegin_of_not (.inr (State.reached_eq_false ho hk))
  · exact exec_slotEnd_of_not (.inr (State.reached_eq_false ho hk))
  · exact exec_close_of_not (.inr (State.reached_eq_false ho h))
  · exact exec_roundBegin_of_not (.inr (State.reached_eq_false ho hj))
  · exact exec_roundEnd_of_not (.inr (State.reached_eq_false ho hj))
  · have htakes (x : LocalCommand) : ¬ s.takes x = true := by simp [State.takes_of_closed hclosed]
    have hcommand : ¬ s.port.txn = .command := by simp [hclosed]
    rcases hc with hc | ⟨b, hc⟩
    · simp only [List.mem_cons, List.not_mem_nil, or_false] at hc
      rcases hc with rfl | rfl | rfl | rfl | rfl | rfl | rfl | rfl | rfl | rfl | rfl
      all_goals exact congrArg Host.Outcome.next (if_neg (by simp [htakes, hclosed]))
    · rcases hc with rfl | rfl | rfl | rfl | rfl
      · exact congrArg Host.Outcome.next (if_neg fun h => hcommand h.1)
      · exact exec_commandByte_of_not hcommand
      all_goals exact congrArg Host.Outcome.next (if_neg (htakes _))

/-! ### RESET -/

/-- Settles O7. -/
theorem resetTakesResetValues : Obligations.ResetTakesResetValues := by
  intro x low s
  refine ⟨s.after (.reset x low), exec_eq_next _ _, rfl, rfl, rfl, ?_, rfl, rfl, rfl, rfl, ?_, ?_, rfl, rfl, rfl⟩
  · simp only [State.after, exec, execReset, State.atReset, decide_eq_true_eq]
    rfl
  · simp only [State.after, exec, execReset, State.atReset, decide_eq_true_eq]
    split <;> rfl
  · simp only [State.after, exec, execReset, State.atReset, decide_eq_true_eq]
    split <;> rfl

/-- All the invariants that a step keeps, as the proofs keep them. -/
structure State.Sound (s : State) : Prop where
  table : s.tableSound
  listing : s.Listing
  store : s.store.ok
  port : s.port.ok
  notices : NoticesOk s.line.notices
  faults : s.faults.ok
  emulator : s.emulator.ok
  deadline : s.deadlineSound
  lockout : s.lockoutSound
  members : s.membersOk
  line : s.line.ok
  tests : s.testsOk

theorem State.Sound.after {s : State} (h : s.Sound) (c : Instr) : (s.after c).Sound where
  table := h.table.after c
  listing := h.listing.after h.table c
  store := h.store.after h.table c
  port := h.port.after c
  notices := h.notices.after c
  faults := h.faults.after c
  emulator := h.emulator.after c
  deadline := h.deadline.after c
  lockout := h.lockout.after c
  members := h.members.after c
  line := h.line.after c
  tests := h.tests.after c

/-- The state at power-up is sound. -/
theorem State.reset_sound : State.reset.Sound where
  table := Sys2Proof.Tests.tableSound_of_cleared _ rfl (by decide)
  listing := by
    have hreset : State.reset.after (.reset ⟨0, 0, 0, 0, 0⟩ false) = State.reset := State.atReset_zero
    exact hreset ▸ State.Listing.reset (s := State.reset) ⟨0, 0, 0, 0, 0⟩ false
  store := SnapshotStore.initial_ok
  port := ⟨by decide, by decide, by decide, by decide⟩
  notices := .nil
  faults := iff_of_false (by decide) (by decide)
  emulator := PulseEmulator.ok_reset 0
  deadline := rfl
  lockout := nofun
  members := ⟨⟨by decide, by decide, by decide, by decide, by decide, by decide, by decide⟩,
    MembershipUnit.peersOk_cleared _ rfl⟩
  line := ⟨rfl, by decide, by decide, by decide, by decide⟩
  tests := State.testsOk_reset ⟨0, 0, 0, 0, 0⟩ false State.reset

/-- No invariant speaks of the clock, the queue or the count of free choices, which RESET keeps (log 27). -/
theorem State.after_reset_sound (s : State) (x : Straps) (low : Bool) : (s.after (.reset x low)).Sound := by
  have hreset := State.reset_sound
  have hbase : State.Sound
      { State.reset with clock := s.clock, pending := s.pending, freeCount := s.freeCount } :=
    ⟨hreset.table, hreset.listing.congr rfl rfl, hreset.store, hreset.port, hreset.notices, hreset.faults,
      hreset.emulator, hreset.deadline, hreset.lockout, hreset.members, hreset.line, hreset.tests⟩
  exact hbase.after (.reset x low)

/-- Settles O8. -/
theorem resetMeetsInvariants : Obligations.ResetMeetsInvariants := by
  intro x low s t ht
  have hsound : t.Sound := by
    rcases ht with ht | rfl
    · obtain rfl : s.after (.reset x low) = t := Host.Outcome.next.inj ((exec_eq_next _ s).symm.trans ht)
      exact s.after_reset_sound x low
    · exact State.reset_sound
  exact ⟨hsound.table, hsound.listing.listedSound, hsound.store, hsound.port,
    t.noticesSound_iff_ok.2 hsound.notices, hsound.faults, hsound.emulator, hsound.deadline, hsound.lockout,
    hsound.members.1, t.peersSound_iff_ok.2 hsound.members.2, hsound.line, hsound.tests.2, hsound.tests.1⟩

end Sys2Proof.Machine
end

section
/-! SUPPORT. Frames and coding (Chapter 11): what a receiver reads from a frame is what its sender put into it, and no frame looks
like a mark. -/

namespace Sys2Proof.Machine

/-! ### Sample frames (Table 11-2) -/

/-- Sync, payload and check of a sample frame. -/
theorem sampleFrame_parts (plan : PlanCode) (f : FrameRecord) :
    frameField (sampleFrame plan f) 0 8 = sampleSync ∧ frameField (sampleFrame plan f) 8 78 = samplePayload plan f ∧
      frameField (sampleFrame plan f) 86 16 = frameCheck (samplePayload plan f) := by
  unfold sampleFrame frameField
  generalize samplePayload plan f = payload
  generalize frameCheck payload = check
  simp only [BitVec.extractLsb'_append_eq_of_le (v := 86) (w := 16),
    BitVec.extractLsb'_append_eq_of_add_le (v := 86) (w := 16), BitVec.extractLsb'_append_eq_of_le (v := 8) (w := 78),
    BitVec.extractLsb'_append_eq_of_add_le (v := 8) (w := 78), Nat.reduceSub, Nat.reduceAdd, Nat.reduceLeDiff,
    BitVec.extractLsb'_eq_self, and_self]

/-- A field that lies within bits 8 to 85 of a sample frame is a field of its payload. -/
theorem sampleFrame_field (plan : PlanCode) (f : FrameRecord) {first len : Nat} (hfirst : 8 ≤ first)
    (hlast : first + len ≤ 86) : frameField (sampleFrame plan f) first len =
      frameField (samplePayload plan f) (first - 8) len := by
  unfold sampleFrame frameField
  generalize samplePayload plan f = payload
  generalize frameCheck payload = check
  rw [BitVec.extractLsb'_append_eq_of_le (v := 86) (w := 16) (by omega),
    BitVec.extractLsb'_append_eq_of_add_le (v := 8) (w := 78) (by omega)]
  congr 1
  omega

/-- The fields of the payload, first to last. -/
theorem samplePayload_fields (plan : PlanCode) (f : FrameRecord) :
    frameField (samplePayload plan f) 0 3 = plan ∧ frameField (samplePayload plan f) 3 4 = f.station ∧
      frameField (samplePayload plan f) 7 3 = f.axis ∧
      frameField (samplePayload plan f) 10 1 = BitVec.ofNat 1 f.state.code ∧
      (∀ i len, i + len ≤ 3 →
        frameField (samplePayload plan f) (11 + i) len = f.flags.lineBits.extractLsb' (3 - i - len) len) ∧
      frameField (samplePayload plan f) 14 16 = f.epoch ∧ frameField (samplePayload plan f) 30 16 = f.angle ∧
      frameField (samplePayload plan f) 46 16 = f.velocity ∧ frameField (samplePayload plan f) 62 16 = f.heard := by
  unfold samplePayload frameField
  refine ⟨?_, ?_, ?_, ?_, fun i len hi => ?_, ?_, ?_, ?_, ?_⟩
  case refine_5 =>
    rw [BitVec.extractLsb'_append_eq_of_le (v := 62) (w := 16) (by omega),
      BitVec.extractLsb'_append_eq_of_le (v := 46) (w := 16) (by omega),
      BitVec.extractLsb'_append_eq_of_le (v := 30) (w := 16) (by omega),
      BitVec.extractLsb'_append_eq_of_le (v := 14) (w := 16) (by omega),
      BitVec.extractLsb'_append_eq_of_add_le (v := 11) (w := 3) (by omega)]
    congr 1
    omega
  all_goals simp only [BitVec.extractLsb'_append_eq_of_le (v := 62) (w := 16),
    BitVec.extractLsb'_append_eq_of_add_le (v := 62) (w := 16), BitVec.extractLsb'_append_eq_of_le (v := 46) (w := 16),
    BitVec.extractLsb'_append_eq_of_add_le (v := 46) (w := 16), BitVec.extractLsb'_append_eq_of_le (v := 30) (w := 16),
    BitVec.extractLsb'_append_eq_of_add_le (v := 30) (w := 16), BitVec.extractLsb'_append_eq_of_le (v := 14) (w := 16),
    BitVec.extractLsb'_append_eq_of_add_le (v := 14) (w := 16), BitVec.extractLsb'_append_eq_of_le (v := 11) (w := 3),
    BitVec.extractLsb'_append_eq_of_le (v := 10) (w := 1), BitVec.extractLsb'_append_eq_of_add_le (v := 10) (w := 1),
    BitVec.extractLsb'_append_eq_of_le (v := 7) (w := 3), BitVec.extractLsb'_append_eq_of_add_le (v := 7) (w := 3),
    BitVec.extractLsb'_append_eq_of_le (v := 3) (w := 4), BitVec.extractLsb'_append_eq_of_add_le (v := 3) (w := 4),
    Nat.reduceSub, Nat.reduceAdd, Nat.reduceLeDiff, BitVec.extractLsb'_eq_self]

/-- The three flags are read back from the flags field. -/
theorem SampleFlags.lineBits_read (x : SampleFlags) :
    (⟨x.lineBits.extractLsb' 2 1 == 1#1, x.lineBits.extractLsb' 1 1 == 1#1, x.lineBits.extractLsb' 0 1 == 1#1⟩ :
      SampleFlags) = x := by
  obtain ⟨test, settling, sensorFault⟩ := x
  revert test settling sensorFault
  decide

theorem FrameState.code_read (st : FrameState) :
    (if BitVec.ofNat 1 st.code = 1#1 then FrameState.active else .joining) = st := by cases st <;> rfl

/-- Settles O51, field by field. -/
theorem sampleFrameRoundTrip : Obligations.SampleFrameRoundTrip := by
  intro plan f
  obtain ⟨hsync, hpayload, hcheck⟩ := sampleFrame_parts plan f
  obtain ⟨hplan, hstation, haxis, hstate, hflags, hepoch, hangle, hvelocity, hheard⟩ := samplePayload_fields plan f
  refine ⟨beq_iff_eq.2 hsync, by rw [sampleCheckOk, hpayload, hcheck, beq_self_eq_true], ?_, ?_⟩
  · rw [samplePlan, sampleFrame_field plan f (by decide) (by decide), hplan]
  · unfold sampleRecord
    rw [sampleFrame_field plan f (first := 11) (by decide) (by decide),
      sampleFrame_field plan f (first := 15) (by decide) (by decide),
      sampleFrame_field plan f (first := 18) (by decide) (by decide),
      sampleFrame_field plan f (first := 19) (by decide) (by decide),
      sampleFrame_field plan f (first := 20) (by decide) (by decide),
      sampleFrame_field plan f (first := 21) (by decide) (by decide),
      sampleFrame_field plan f (first := 22) (by decide) (by decide),
      sampleFrame_field plan f (first := 38) (by decide) (by decide),
      sampleFrame_field plan f (first := 54) (by decide) (by decide),
      sampleFrame_field plan f (first := 70) (by decide) (by decide)]
    simp only [Nat.reduceSub, hstation, haxis, hstate, hepoch, hangle, hvelocity, hheard, FrameState.code_read]
    rw [hflags 0 1 (by decide), hflags 1 1 (by decide), hflags 2 1 (by decide)]
    simp only [Nat.reduceSub, SampleFlags.lineBits_read]

/-! ### Notice frames (Table 11-3) -/

/-- Sync, payload and check of a notice frame, and the fields of its payload, first to last. -/
theorem noticeFrame_parts (f : NoticeFields) :
    frameField (noticeFrame f) 0 8 = noticeSync ∧ frameField (noticeFrame f) 8 25 = noticePayload f ∧
      frameField (noticeFrame f) 33 16 = frameCheck (noticePayload f) := by
  unfold noticeFrame frameField
  generalize noticePayload f = payload
  generalize frameCheck payload = check
  simp only [BitVec.extractLsb'_append_eq_of_le (v := 33) (w := 16),
    BitVec.extractLsb'_append_eq_of_add_le (v := 33) (w := 16), BitVec.extractLsb'_append_eq_of_le (v := 8) (w := 25),
    BitVec.extractLsb'_append_eq_of_add_le (v := 8) (w := 25), Nat.reduceSub, Nat.reduceAdd, Nat.reduceLeDiff,
    BitVec.extractLsb'_eq_self, and_self]

theorem noticeFrame_field (f : NoticeFields) {first len : Nat} (hfirst : 8 ≤ first) (hlast : first + len ≤ 33) :
    frameField (noticeFrame f) first len = frameField (noticePayload f) (first - 8) len := by
  unfold noticeFrame frameField
  generalize noticePayload f = payload
  generalize frameCheck payload = check
  rw [BitVec.extractLsb'_append_eq_of_le (v := 33) (w := 16) (by omega),
    BitVec.extractLsb'_append_eq_of_add_le (v := 8) (w := 25) (by omega)]
  congr 1
  omega

theorem noticePayload_fields (f : NoticeFields) :
    frameField (noticePayload f) 0 2 = BitVec.ofNat 2 f.kind.code ∧ frameField (noticePayload f) 2 4 = f.station ∧
      frameField (noticePayload f) 6 3 = f.plan ∧ frameField (noticePayload f) 9 8 = f.argument ∧
      frameField (noticePayload f) 17 8 = f.epochLow := by
  unfold noticePayload frameField
  refine ⟨?_, ?_, ?_, ?_, ?_⟩
  all_goals simp only [BitVec.extractLsb'_append_eq_of_le (v := 17) (w := 8),
    BitVec.extractLsb'_append_eq_of_add_le (v := 17) (w := 8), BitVec.extractLsb'_append_eq_of_le (v := 9) (w := 8),
    BitVec.extractLsb'_append_eq_of_add_le (v := 9) (w := 8), BitVec.extractLsb'_append_eq_of_le (v := 6) (w := 3),
    BitVec.extractLsb'_append_eq_of_add_le (v := 6) (w := 3), BitVec.extractLsb'_append_eq_of_le (v := 2) (w := 4),
    BitVec.extractLsb'_append_eq_of_add_le (v := 2) (w := 4), Nat.reduceSub, Nat.reduceAdd, Nat.reduceLeDiff,
    BitVec.extractLsb'_eq_self]

theorem NoticeKind.ofCode_code (k : NoticeKind) : NoticeKind.ofCode (BitVec.ofNat 2 k.code) = k := by cases k <;> rfl

theorem LocalCommand.ofByte_toByte (c : LocalCommand) : LocalCommand.ofByte c.toByte = some c := by cases c <;> rfl

/-- A byte names at most the command whose byte it is (Table 11-5). -/
theorem LocalCommand.ofByte_eq_some {b : Byte} {c : LocalCommand} (h : LocalCommand.ofByte b = some c) :
    b = c.toByte := by
  unfold LocalCommand.ofByte at h
  split at h
  all_goals cases h
  all_goals exact BitVec.eq_of_toNat_eq ‹_›

/-- Settles O52, field by field and command by command. -/
theorem noticeFrameRoundTrip : Obligations.NoticeFrameRoundTrip := by
  refine ⟨fun f => ?_, fun b c => ⟨LocalCommand.ofByte_eq_some, fun h => h ▸ LocalCommand.ofByte_toByte c⟩⟩
  obtain ⟨hsync, hpayload, hcheck⟩ := noticeFrame_parts f
  obtain ⟨hkind, hstation, hplan, hargument, hepoch⟩ := noticePayload_fields f
  refine ⟨beq_iff_eq.2 hsync, by rw [noticeCheckOk, hpayload, hcheck, beq_self_eq_true], ?_⟩
  unfold noticeFields
  rw [noticeFrame_field f (first := 8) (by decide) (by decide),
    noticeFrame_field f (first := 10) (by decide) (by decide),
    noticeFrame_field f (first := 14) (by decide) (by decide),
    noticeFrame_field f (first := 17) (by decide) (by decide),
    noticeFrame_field f (first := 25) (by decide) (by decide)]
  simp only [Nat.reduceSub, hkind, hstation, hplan, hargument, hepoch, NoticeKind.ofCode_code]

/-! ### The coding of bits in halves (R172) -/

/-- The halves of bit i of a list of coded bits. -/
theorem codedBits_getElem? (bits : List Bool) (i : Nat) :
    (bits.flatMap codeBit)[2 * i]? = bits[i]?.map (!·) ∧ (bits.flatMap codeBit)[2 * i + 1]? = bits[i]? := by
  induction bits generalizing i with
  | nil => simp
  | cons b bits ih =>
    cases i with
    | zero => simp [codeBit]
    | succ i =>
      have hshift (x y : Bool) (l : List Bool) (n : Nat) : (x :: y :: l)[n + 2]? = l[n]? := rfl
      simp only [List.flatMap_cons, codeBit, List.cons_append, List.nil_append, Nat.mul_add, Nat.mul_one,
        List.getElem?_cons_succ, hshift, show 2 * i + 2 + 1 = 2 * i + 1 + 2 from rfl]
      exact ih i

theorem codedBits_length (bits : List Bool) : (bits.flatMap codeBit).length = 2 * bits.length := by
  induction bits with
  | nil => rfl
  | cons b bits ih => simp only [List.flatMap_cons, List.length_append, ih, List.length_cons]; simp [codeBit]; omega

/-- Three dominant halves in a row would hold both halves of one bit. -/
theorem codedBits_not_dominant (bits : List Bool) : ¬[true, true, true] <:+: bits.flatMap codeBit := by
  rintro ⟨before, rest, hsplit⟩
  have hat (n : Nat) (hn : n < 3) : (bits.flatMap codeBit)[before.length + n]? = some true := by
    rw [← hsplit, List.append_assoc, List.getElem?_append_right (by omega)]
    rw [Nat.add_sub_cancel_left, List.getElem?_append_left hn]
    interval_cases n <;> rfl
  obtain ⟨i, hi⟩ : ∃ i, before.length = 2 * i ∨ before.length + 1 = 2 * i :=
    ⟨(before.length + 1) / 2, by omega⟩
  obtain ⟨hfirst, hsecond⟩ := codedBits_getElem? bits i
  have hboth : (bits.flatMap codeBit)[2 * i]? = some true ∧ (bits.flatMap codeBit)[2 * i + 1]? = some true := by
    rcases hi with hi | hi
    · exact ⟨hi ▸ hat 0 (by decide), hi ▸ hat 1 (by decide)⟩
    · exact ⟨hi ▸ hat 1 (by decide), hi ▸ hat 2 (by decide)⟩
  rw [hfirst, hsecond] at hboth
  rw [hboth.2] at hboth
  simp at hboth

theorem sentBits_getElem? {w : Nat} (v : BitVec w) {i : Nat} (hi : i < w) :
    (sentBits v)[i]? = some (v.getLsbD (w - 1 - i)) := by
  simp [sentBits, hi]

/-- The two halves of bit i of a frame on the line. -/
theorem codedHalves_getElem? {w : Nat} (v : BitVec w) {i : Nat} (hi : i < w) :
    (codedHalves v)[2 * i]? = some (!v.getLsbD (w - 1 - i)) ∧
      (codedHalves v)[2 * i + 1]? = some (v.getLsbD (w - 1 - i)) := by
  have hbits := codedBits_getElem? (sentBits v) i
  rw [sentBits_getElem? v hi] at hbits
  exact hbits

/-- Settles O53: the halves of a bit differ, and any three halves in a row hold both halves of some bit. -/
theorem noFrameLooksLikeAMark : Obligations.NoFrameLooksLikeAMark := fun w v =>
  ⟨by rw [codedHalves, codedBits_length]; simp [sentBits], codedBits_not_dominant _, fun _ hi => codedHalves_getElem? v hi⟩

end Sys2Proof.Machine
end

section
/-! SUPPORT. The line and the clock: what falls due at a bit time, the drives and their level, the slots and the receiver. -/

namespace Sys2Proof.Machine

/-! ### Drives and their level (R47, R172) -/

theorem MarkDrive.isDriving_eq_false {m : MarkDrive} (h : ∀ cold since, m ≠ .driving cold since) :
    m.isDriving = false := by
  rw [Bool.eq_false_iff, Ne, MarkDrive.isDriving_iff]
  rintro ⟨cold, since, hm⟩
  exact h cold since hm

/-- A drive begins where the station does not drive, and goes on where it does. -/
theorem LineController.drive_of_not {l : LineController} (h : ∀ cold since, l.markDrive ≠ .driving cold since)
    (cold : Bool) (now : Instant) : l.drive cold now = { l with markDrive := .driving cold now } := by
  simp [LineController.drive, MarkDrive.isDriving_eq_false h]

theorem LineController.drive_of_driving {l : LineController} (h : ∃ cold since, l.markDrive = .driving cold since)
    (cold : Bool) (now : Instant) : l.drive cold now = l := by
  simp [LineController.drive, (MarkDrive.isDriving_iff _).2 h]

/-- The level of a frame in the bit time of its bit i is that bit's two halves, most significant bit first. -/
theorem frameLevel_of_bit {w : Nat} (bits : BitVec w) {i : Nat} (hi : i < w) :
    frameLevel bits i false = !bits.getLsbD (w - 1 - i) ∧ frameLevel bits i true = bits.getLsbD (w - 1 - i) := by
  obtain ⟨hfirst, hsecond⟩ := codedHalves_getElem? bits hi
  have hnot : ¬ ((i : Int) < 0) := by omega
  simp only [frameLevel, hnot, if_false, Int.toNat_natCast, List.getD_eq_getElem?_getD, Bool.toNat_false,
    Bool.toNat_true, Nat.add_zero, hfirst, hsecond, Option.getD_some, and_self]

theorem LineController.sampleLevel_of_none {l : LineController} (h : l.sending = none) (now : Instant) (half : Bool) :
    l.sampleLevel now half = false := by
  simp [LineController.sampleLevel, h]

theorem LineController.noticeLevel_of_not {l : LineController} (h : ∀ bits since, l.noticeSend ≠ .sending bits since)
    (now : Instant) (half : Bool) : l.noticeLevel now half = false := by
  unfold LineController.noticeLevel
  split
  · next bits since hsend => exact absurd hsend (h bits since)
  all_goals rfl

/-- The part drives what one of its frames gives while it drives no mark. -/
theorem State.driveLevel_of_idle {s : State} (h : s.line.markDrive = .idle) (half : Bool) :
    s.driveLevel half = (s.line.sampleLevel s.clock half || s.line.noticeLevel s.clock half) := by
  simp [State.driveLevel, h]

theorem Instant.elapsed {now since : Instant} {i : Nat} (h : now = since + i) : now - since = (i : Int) := by
  unfold Instant at *
  omega

/-- Settles O16. -/
theorem markDrivesBeginAndEnd : Obligations.MarkDrivesBeginAndEnd := by
  intro s
  have hdue (d : Instant) (hd : d ∈ s.timer.deadline) (hle : d ≤ s.clock) : s.deadlineDue = true :=
    s.deadlineDue_iff.2 ⟨d, hd, hle⟩
  refine ⟨fun d hd hle hnot => ?_, fun h => congrArg Host.Outcome.next ?_, fun hself hle hnot => ?_,
    fun h => congrArg Host.Outcome.next ?_, fun h => congrArg Host.Outcome.next (if_pos h),
    fun h => congrArg Host.Outcome.next (if_neg h), fun h half => by simp [State.driveLevel, h],
    fun hm hs hn half => ?_, fun f i hi hm hs hn hclock => ?_, fun bits since i hi hm hs hn hclock => ?_⟩
  · refine congrArg Host.Outcome.next ((if_pos (hdue d hd hle)).trans ?_)
    rw [LineController.drive_of_not hnot]
  · split
    · next hdl =>
      obtain ⟨d, hd, hle⟩ := s.deadlineDue_iff.1 hdl
      rcases h with h | h
      · exact absurd hle (Int.not_le.2 (h d hd))
      · rw [LineController.drive_of_driving h]
    · rfl
  · refine congrArg Host.Outcome.next ((if_pos (s.timeoutDue_iff.2 ⟨hself, hle⟩)).trans ?_)
    rw [LineController.drive_of_not hnot]
  · split
    · next htd =>
      obtain ⟨hself, hle⟩ := s.timeoutDue_iff.1 htd
      rcases h with h | h | h
      · exact absurd hself h
      · exact absurd hle (Nat.not_le.2 h)
      · rw [LineController.drive_of_driving h]
    · rfl
  · rw [State.driveLevel_of_idle hm, LineController.sampleLevel_of_none hs, LineController.noticeLevel_of_not hn]
    rfl
  · obtain ⟨hfirst, hsecond⟩ := frameLevel_of_bit f.bits hi
    rw [State.driveLevel_of_idle hm, State.driveLevel_of_idle hm, LineController.noticeLevel_of_not hn,
      LineController.noticeLevel_of_not hn, Bool.or_false, Bool.or_false]
    simp only [LineController.sampleLevel, hs, Instant.elapsed hclock]
    exact ⟨hfirst, hsecond⟩
  · obtain ⟨hfirst, hsecond⟩ := frameLevel_of_bit bits hi
    rw [State.driveLevel_of_idle hm, State.driveLevel_of_idle hm, LineController.sampleLevel_of_none hs,
      LineController.sampleLevel_of_none hs, Bool.false_or, Bool.false_or]
    simp only [LineController.noticeLevel, hn, Instant.elapsed hclock]
    exact ⟨hfirst, hsecond⟩

/-! ### Slots (R62, R63, R67) -/

theorem State.drawn_of {s : State} (hseen : s.timer.markSeen = true) (hself : s.member.selfState ≠ .lockout) :
    s.drawn = true := s.drawn_iff.2 ⟨hseen, hself⟩

/-- INJECT or MONITOR in progress marks the own sample (R63). -/
theorem SelfTestUnit.samplesUnderTest_eq (t : SelfTestUnit) :
    t.samplesUnderTest = (t.runs .inject || t.runs .monitor) := by
  unfold SelfTestUnit.samplesUnderTest SelfTestUnit.runs
  cases t.running with
  | none => rfl
  | some r => cases hc : r.code <;> simp [TestCode.marksSample, hc]

/-- The own TEST flag that the begin of the own slot fixes. -/
theorem State.underTest_or (s : State) : (s.sensor.underTest || s.tests.samplesUnderTest) =
    (s.sensor.underTest || s.tests.runs .inject || s.tests.runs .monitor) := by
  rw [SelfTestUnit.samplesUnderTest_eq, Bool.or_assoc]

theorem State.slotDue_of {s : State} {k : Station} (hdrawn : s.drawn = true) (hk : k.toNat < s.plan.n)
    (htime : ∃ o ∈ s.timer.origin, o + (16 + 144 * k.toNat : Nat) ≤ s.clock)
    (hpos : s.timer.position = .mark ∨ ∃ j : Station, s.timer.position = .slot j ∧ j.toNat < k.toNat) :
    s.slotDue k = true := by
  have hreached : s.reached (slotTime k.toNat) = true := (s.reached_iff _).2 htime
  have hbefore : s.timer.position.beforeClose = true ∧ s.timer.position.rank < (SchedulePos.slot k).rank := by
    rcases hpos with hpos | ⟨j, hpos, hjk⟩ <;> rw [hpos]
    · exact ⟨rfl, by simp only [SchedulePos.rank]; omega⟩
    · exact ⟨rfl, by simp only [SchedulePos.rank]; omega⟩
  simp [State.slotDue, hdrawn, hreached, hk, hbefore.1, hbefore.2]

/-- Settles O17. -/
theorem slotBeginSendsOrSearches : Obligations.SlotBeginSendsOrSearches := by
  intro k s hseen hself hk htime hpos
  have hexec : exec (.slotBegin k) s = .next (s.slotBegin k) :=
    congrArg Host.Outcome.next (if_pos (State.slotDue_of (State.drawn_of hseen hself) hk htime hpos))
  rw [hexec]
  refine ⟨fun hown hst hout => ?_, fun hown hst => ?_, fun hown => ?_⟩
  · have hstarts : s.startsOwnFrame k = true := by
      simp [State.startsOwnFrame, hown, hout, (SelfState.member_iff _).2 hst]
    simp only [State.slotBegin, hstarts, if_pos hown, if_true, State.ownFrame, State.underTest_or]
  · have hstarts : s.startsOwnFrame k = false := by
      have hmember : s.member.selfState.member = true → s.line.outcome ≠ .none := fun hm => by
        rcases hst with hst | hst
        · rcases (SelfState.member_iff _).1 hm with h | h
          · exact absurd h hst.1
          · exact absurd h hst.2
        · exact hst
      simpa [State.startsOwnFrame, hown] using hmember
    simp only [State.slotBegin, hstarts, if_pos hown, State.underTest_or]
    rfl
  · have hstarts : s.startsOwnFrame k = false := by simp [State.startsOwnFrame, hown]
    simp only [State.slotBegin, hstarts, if_neg hown]
    rfl

/-- Settles O18. -/
theorem ownFramesEnd : Obligations.OwnFramesEnd := by
  intro s
  refine ⟨fun h => ⟨congrArg Host.Outcome.next ((if_pos h).trans ?_), congrArg Host.Outcome.next (if_pos h)⟩,
    fun bits since h => ?_⟩
  · simp only [beq_eq_decide]
  · have hsending : s.line.noticeSend.isSending = true := by rw [h]; rfl
    exact ⟨congrArg Host.Outcome.next (if_pos hsending), congrArg Host.Outcome.next (if_pos hsending)⟩

/-- Settles O21. -/
theorem receiverFollowsLine : Obligations.ReceiverFollowsLine := by
  intro s hseen hself
  have hdrawn := State.drawn_of hseen hself
  have hslot (h : ∃ k, s.timer.position = .slot k) : s.receiving = true := by
    obtain ⟨k, hk⟩ := h
    simp [State.receiving, hdrawn, hk]
  have hround (h : ∃ j, s.timer.position = .round j) (hopen : s.timer.roundOpen = true) : s.receiving = true := by
    obtain ⟨j, hj⟩ := h
    simp [State.receiving, hdrawn, hj, hopen]
  refine ⟨fun hpos hr => ?_, fun hpos hr => ?_, fun hpos hopen hr => ?_,
    fun k hk htime => congrArg Host.Outcome.next (if_pos ⟨hdrawn, hk, (s.reached_iff _).2 htime⟩)⟩
  · have hreceiving : s.receiving = true := by
      rcases hpos with hpos | ⟨hpos, hopen⟩
      · exact hslot hpos
      · exact hround hpos hopen
    exact congrArg Host.Outcome.next (if_pos ⟨hreceiving, hr⟩)
  · refine congrArg Host.Outcome.next ((if_pos ⟨hslot hpos, hr⟩).trans ?_)
    obtain ⟨k, hk⟩ := hpos
    rw [hk]
    rfl
  · refine congrArg Host.Outcome.next ((if_pos ⟨hround hpos hopen, hr⟩).trans ?_)
    obtain ⟨j, hj⟩ := hpos
    rw [hj]
    rfl

end Sys2Proof.Machine
end

section
/-! SUPPORT. What falls due at a bit time (Table 3-3, R45, R47, R50, R64, R108, R137, R157, logs 2 and 4). -/

namespace Sys2Proof.Machine

/-! ### The due commands, source by source -/

theorem mem_dueIf {due : Bool} {c d : Instr} : c ∈ dueIf due d ↔ due = true ∧ c = d := by
  unfold dueIf
  cases due <;> simp

theorem State.mem_outputsDue {s : State} {c : Instr} : c ∈ s.outputsDue ↔
    (c = .epsPulseEnd ∧ ∃ up ∈ s.store.eps, up + 10 ≤ s.clock) ∨
      (c = .emissionEdge ∧ ∃ em ∈ s.emulator.emission, em.nextEdge s.plan.period ≤ s.clock) := by
  unfold State.outputsDue
  cases s.store.eps <;> cases s.emulator.emission <;> simp [mem_dueIf, and_comm]

theorem State.mem_voteDue {s : State} {c : Instr} : c ∈ s.voteDue ↔
    c = .voteCompletion ∧ ∃ v ∈ s.engine.vote, v.deliveredAt + 32 ≤ s.clock := by
  unfold State.voteDue
  cases s.engine.vote <;> simp [mem_dueIf, and_comm]

theorem State.mem_marksDue {s : State} {c : Instr} : c ∈ s.marksDue ↔ s.line.markDrive.isDriving = false ∧
    (c = .markDeadline ∧ (∃ d ∈ s.timer.deadline, d ≤ s.clock) ∨
      c = .listenTimeout ∧ s.member.selfState = .listen ∧ s.listenTimeout ≤ s.timer.listenTimer) := by
  unfold State.marksDue
  rw [← State.deadlineDue_iff, ← State.timeoutDue_iff]
  simp only [List.mem_append, mem_dueIf, Bool.and_eq_true, Bool.not_eq_true']
  tauto

theorem State.mem_ownMarkDue {s : State} {c : Instr} : c ∈ s.ownMarkDue ↔
    c = .markRecognised (Config.markInputs s.clock) ∧
      ∃ cold since, s.line.markDrive = .driving cold since ∧ since + 12 ≤ s.clock := by
  unfold State.ownMarkDue
  cases s.line.markDrive with
  | idle | recognised => simp
  | driving cold since =>
    rw [mem_dueIf, decide_eq_true_iff, and_comm]
    simp [recognitionTime]

theorem State.mem_drivesDue {s : State} {c : Instr} : c ∈ s.drivesDue ↔
    (c = .markDriveRelease ∧ s.line.markDrive = .recognised ∧ releaseTime ≤ s.timeSinceMark) ∨
      (c = .ownFrameComplete ∧ ∃ f ∈ s.line.sending, f.since + 102 ≤ s.clock) ∨
      (c = .noticeFrameComplete ∧ ∃ bits since, s.line.noticeSend = .sending bits since ∧ since + 49 ≤ s.clock) := by
  unfold State.drivesDue
  cases s.line.sending <;> cases s.line.noticeSend <;> simp [mem_dueIf] <;> tauto

/-- A recognised mark is released 16 bit times after its origin (R47). -/
theorem State.releaseTime_le_iff (s : State) :
    releaseTime ≤ s.timeSinceMark ↔ ∃ o ∈ s.timer.origin, o + 16 ≤ s.clock := by
  unfold State.timeSinceMark releaseTime Instant
  cases s.timer.origin with
  | none => simp
  | some o => simp only [Option.mem_def, Option.some.injEq, exists_eq_left']; omega

theorem State.tick_pending_of_nil {s : State} (h : s.pending = []) : s.tick.pending = s.count.due := by
  simp [State.tick, h]

theorem State.mem_due {s : State} {c : Instr} : c ∈ s.due ↔ c ∈ s.outputsDue ∨ c ∈ s.drivesDue ∨ c ∈ s.voteDue ∨
    c ∈ s.scheduleDue ∨ c ∈ s.marksDue ∨ c ∈ s.ownMarkDue := by
  simp [State.due, List.mem_append]

/-! ### The schedule (Table 3-3) -/

theorem ofNat_eq_iff {w q : Nat} (hq : q < 2 ^ w) (k : BitVec w) : BitVec.ofNat w q = k ↔ q = k.toNat := by
  rw [← BitVec.toNat_inj, BitVec.toNat_ofNat, Nat.mod_eq_of_lt hq]

/-- The commands of the schedule. -/
def ofSchedule : Instr → Bool
  | .slotBegin _ | .slotEnd _ | .close | .roundBegin _ | .roundEnd _ => true
  | _ => false

/-- What the schedule raises in the slot phase: at the begin of slot k, the end of the slot before it and the begin of k. -/
theorem mem_scheduleEvents_slot {n t : Nat} (ht : 16 ≤ t) (hn : t < 16 + 144 * n) (c : Instr) :
    c ∈ scheduleEvents n t ↔ (t - 16) % 144 = 0 ∧
      ((t - 16) / 144 ≠ 0 ∧ c = .slotEnd (BitVec.ofNat 4 ((t - 16) / 144 - 1)) ∨
        c = .slotBegin (BitVec.ofNat 4 ((t - 16) / 144))) := by
  have h0 : ¬ t < slotTime 0 := Nat.not_lt.2 ht
  have hslot : slotTime 0 = 16 := rfl
  rw [scheduleEvents, if_neg h0, if_pos (show t < closeTime n from hn), hslot]
  split
  · next hm => simp [mem_dueIf, hm]
  · next hm => simp [hm]

/-- What it raises after the slot phase: the close, then at the begin of round j the end of the round before it and the
begin of j, and after the last round its end. -/
theorem mem_scheduleEvents_after {n t : Nat} (hn : 16 + 144 * n ≤ t) (c : Instr) :
    c ∈ scheduleEvents n t ↔ t = 16 + 144 * n ∧ c = .close ∨
      (16 + 144 * n + 32 ≤ t ∧ t ≤ 16 + 144 * n + 288) ∧ (t - (16 + 144 * n + 32)) % 64 = 0 ∧
        ((t - (16 + 144 * n + 32)) / 64 ≠ 0 ∧
            c = .roundEnd (BitVec.ofNat 2 ((t - (16 + 144 * n + 32)) / 64 - 1)) ∨
          (t - (16 + 144 * n + 32)) / 64 ≠ 4 ∧
            c = .roundBegin (BitVec.ofNat 2 ((t - (16 + 144 * n + 32)) / 64))) := by
  have h0 : ¬ t < slotTime 0 := by simp only [slotTime_eq]; omega
  have h1 : ¬ t < closeTime n := Nat.not_lt.2 hn
  have hclose : closeTime n = 16 + 144 * n := rfl
  have hround0 : roundTime n 0 = 16 + 144 * n + 32 := rfl
  have hround4 : roundTime n 4 = 16 + 144 * n + 288 := rfl
  rw [scheduleEvents, if_neg h0, if_neg h1, hclose, hround0, hround4]
  split
  · next ht => simp [ht]
  · next ht =>
    split
    · next hlt =>
      have hle : ¬ (16 + 144 * n + 32 ≤ t ∧ t ≤ 16 + 144 * n + 288) := fun h => absurd h.1 (Nat.not_le.2 hlt)
      simp [ht, hle]
    · next hlt =>
      split
      · next hle =>
        split
        · next hm => simp [mem_dueIf, ht, hm, hle, Nat.le_of_not_lt hlt]
        · next hm => simp [ht, hm]
      · next hle =>
        have hnot : ¬ (16 + 144 * n + 32 ≤ t ∧ t ≤ 16 + 144 * n + 288) := fun h => hle h.2
        simp [ht, hnot]

theorem scheduleEvents_of_lt {n t : Nat} (ht : t < 16) : scheduleEvents n t = [] := if_pos ht

/-- Each event of Table 3-3 is raised at its time and at no other. -/
theorem mem_scheduleEvents {n : Nat} (hn : n ≤ 16) (hpos : 0 < n) (t : Nat) :
    (∀ k : Station, Instr.slotBegin k ∈ scheduleEvents n t ↔ k.toNat < n ∧ t = 16 + 144 * k.toNat) ∧
      (∀ k : Station, Instr.slotEnd k ∈ scheduleEvents n t ↔ k.toNat + 1 < n ∧ t = 16 + 144 * (k.toNat + 1)) ∧
      (Instr.close ∈ scheduleEvents n t ↔ t = 16 + 144 * n) ∧
      (∀ j : RoundNumber, Instr.roundBegin j ∈ scheduleEvents n t ↔ t = 16 + 144 * n + 32 + 64 * j.toNat) ∧
      (∀ j : RoundNumber, Instr.roundEnd j ∈ scheduleEvents n t ↔ t = 16 + 144 * n + 32 + 64 * (j.toNat + 1)) := by
  by_cases h0 : t < 16
  · rw [scheduleEvents_of_lt h0]
    refine ⟨fun k => iff_of_false nofun ?_, fun k => iff_of_false nofun ?_, iff_of_false nofun ?_,
      fun j => iff_of_false nofun ?_, fun j => iff_of_false nofun ?_⟩ <;> omega
  by_cases h1 : t < 16 + 144 * n
  · have hmem := mem_scheduleEvents_slot (Nat.le_of_not_lt h0) h1
    refine ⟨fun k => ?_, fun k => ?_, ?_, fun j => ?_, fun j => ?_⟩
    · rw [hmem]
      simp only [reduceCtorEq, and_false, false_or, Instr.slotBegin.injEq, eq_comm (a := k)]
      rw [ofNat_eq_iff (by omega)]
      omega
    · rw [hmem]
      simp only [reduceCtorEq, or_false, Instr.slotEnd.injEq, eq_comm (a := k)]
      rw [ofNat_eq_iff (by omega)]
      omega
    all_goals rw [hmem]
    all_goals exact iff_of_false (by simp) (by omega)
  · have hmem := mem_scheduleEvents_after (Nat.le_of_not_lt h1)
    refine ⟨fun k => ?_, fun k => ?_, ?_, fun j => ?_, fun j => ?_⟩
    · rw [hmem]
      exact iff_of_false (by simp) (by omega)
    · rw [hmem]
      exact iff_of_false (by simp) (by omega)
    · rw [hmem]
      simp
    · have hj := j.isLt
      rw [hmem]
      simp only [reduceCtorEq, and_false, false_or, Instr.roundBegin.injEq, eq_comm (a := j)]
      constructor
      · rintro ⟨hrange, hm, hne, heq⟩
        rw [ofNat_eq_iff (by omega)] at heq
        omega
      · intro heq
        exact ⟨by omega, by omega, by omega, by rw [ofNat_eq_iff (by omega)]; omega⟩
    · have hj := j.isLt
      rw [hmem]
      simp only [reduceCtorEq, and_false, or_false, false_or, Instr.roundEnd.injEq, eq_comm (a := j)]
      constructor
      · rintro ⟨hrange, hm, hne, heq⟩
        rw [ofNat_eq_iff (by omega)] at heq
        omega
      · intro heq
        exact ⟨by omega, by omega, by omega, by rw [ofNat_eq_iff (by omega)]; omega⟩

theorem planTable_n (p : PlanCode) : 0 < (planTable p).n ∧ (planTable p).n ≤ 16 := by revert p; decide

/-- A command of the schedule is due where the schedule raises it. -/
theorem State.mem_due_of_schedule {s : State} {c : Instr} (hc : ofSchedule c = true) :
    c ∈ s.due ↔ c ∈ s.scheduleDue := by
  rw [State.mem_due, State.mem_outputsDue, State.mem_drivesDue, State.mem_voteDue, State.mem_marksDue,
    State.mem_ownMarkDue]
  cases c <;> simp_all [ofSchedule]

/-- Settles O3. -/
theorem bitTimeRaisesScheduleEvents : Obligations.BitTimeRaisesScheduleEvents := by
  intro s o at' hs hseen hself ho hclock
  have hdrawn : s.count.drawn = true := State.drawn_of hseen hself
  have hafter : (s.count.clock - o).toNat = at' := by
    show (s.clock + 1 - o).toNat = at'
    rw [Instant.elapsed hclock, Int.toNat_natCast]
  have hsched : s.count.scheduleDue = scheduleEvents s.plan.n at' := by
    unfold State.scheduleDue
    rw [show s.count.timer.origin = some o from ho]
    simp only [hdrawn, if_true, hafter]
    rfl
  have hmem {c : Instr} (hc : ofSchedule c = true) : c ∈ s.tick.pending ↔ c ∈ scheduleEvents s.plan.n at' := by
    rw [State.tick_pending_of_nil hs, State.mem_due_of_schedule hc, hsched]
  obtain ⟨hbegin, hend, hclose, hround, hroundEnd⟩ :=
    mem_scheduleEvents (planTable_n s.timer.plan).2 (planTable_n s.timer.plan).1 at'
  exact ⟨s.tick, step_of_nil hs, fun k => (hmem rfl).trans (hbegin k), fun k => (hmem rfl).trans (hend k),
    (hmem rfl).trans hclose, fun j => (hmem rfl).trans (hround j), fun j => (hmem rfl).trans (hroundEnd j)⟩

/-- No command of another kind than the schedule's comes from it. -/
theorem State.not_mem_scheduleDue {s : State} {c : Instr} (hc : ofSchedule c = false) : c ∉ s.scheduleDue := by
  have hevents (n t : Nat) : c ∉ scheduleEvents n t := by
    intro hmem
    by_cases h0 : t < 16
    · rw [scheduleEvents_of_lt h0] at hmem
      cases hmem
    by_cases h1 : t < 16 + 144 * n
    · rw [mem_scheduleEvents_slot (Nat.le_of_not_lt h0) h1] at hmem
      rcases hmem with ⟨-, ⟨-, rfl⟩ | rfl⟩ <;> cases hc
    · rw [mem_scheduleEvents_after (Nat.le_of_not_lt h1)] at hmem
      rcases hmem with ⟨-, rfl⟩ | ⟨-, -, ⟨-, rfl⟩ | ⟨-, rfl⟩⟩ <;> cases hc
  unfold State.scheduleDue
  split
  · split
    · exact hevents _ _
    · simp
  · simp

/-- Settles O4, source by source of the due commands. -/
theorem bitTimeRaisesTimedEvents : Obligations.BitTimeRaisesTimedEvents := by
  intro s hs
  refine ⟨s.tick, step_of_nil hs, ?_⟩
  have hmem {c : Instr} (hc : ofSchedule c = false) : c ∈ s.tick.pending ↔ c ∈ s.count.outputsDue ∨
      c ∈ s.count.drivesDue ∨ c ∈ s.count.voteDue ∨ c ∈ s.count.marksDue ∨ c ∈ s.count.ownMarkDue := by
    rw [State.tick_pending_of_nil hs, State.mem_due]
    simp only [State.not_mem_scheduleDue hc, false_or]
  simp only [hmem (rfl : ofSchedule .markDeadline = false), hmem (rfl : ofSchedule .listenTimeout = false),
    hmem (rfl : ofSchedule (.markRecognised _) = false), hmem (rfl : ofSchedule .markDriveRelease = false),
    hmem (rfl : ofSchedule .ownFrameComplete = false),
    hmem (rfl : ofSchedule .noticeFrameComplete = false), hmem (rfl : ofSchedule .voteCompletion = false),
    hmem (rfl : ofSchedule .epsPulseEnd = false), hmem (rfl : ofSchedule .emissionEdge = false),
    State.mem_outputsDue, State.mem_drivesDue, State.mem_voteDue, State.mem_marksDue, State.mem_ownMarkDue,
    State.releaseTime_le_iff, reduceCtorEq, false_and, and_false, or_false, false_or, true_and,
    Instr.markRecognised.injEq]
  refine ⟨Iff.rfl, Iff.rfl, fun m => Iff.rfl, Iff.rfl, Iff.rfl, Iff.rfl, Iff.rfl, Iff.rfl, Iff.rfl⟩

end Sys2Proof.Machine
end

section
/-! SUPPORT. LOCKOUT by DUPLICATE_ID (R66, R70, R100, R113, R128, R170): what an abort that reaches every test makes of the blocks, and
the records of several blocks that enter together (R145). -/

namespace Sys2Proof.Machine

/-! ### Records of several blocks (R145) -/

/-- With room, the records of several blocks stand behind the history, in some order. -/
theorem State.emitTogether_events (s : State) (blocks : List (List EventRecord))
    (hroom : s.port.events.length + blocks.flatten.length ≤ 32) :
    ∃ new, (s.emitTogether blocks).port.events = s.port.events ++ new ∧ new.Perm blocks.flatten ∧
      ∀ b ∈ blocks, b.Sublist new := by
  have hperm := mergeBlocks_perm s.freeCount blocks
  refine ⟨(mergeBlocks s.freeCount blocks).1, ?_, hperm, fun b hb => mergeBlocks_sublist _ _ b hb⟩
  rw [State.emitTogether_port, LocalPort.appendAll_of_room _ _ (by rw [hperm.length_eq]; exact hroom)]

/-- Records of which at most one is chosen stand in the only order there is. -/
theorem filter_of_perm {new es : List EventRecord} (h : new.Perm es) (p : EventRecord → Bool)
    (hone : (es.filter p).length ≤ 1) : new.filter p = es.filter p := by
  have hp := h.filter p
  rcases hes : es.filter p with _ | ⟨e, rest⟩
  · rw [hes] at hp
    exact hp.eq_nil
  · rw [hes] at hp hone
    obtain rfl : rest = [] := by simpa using hone
    exact List.perm_singleton.1 hp

/-! ### The abort that reaches every test (R170) -/

/-- The tests after an abort of the test in progress, where there is one. -/
def SelfTestUnit.aborted (t : SelfTestUnit) (why : AbortReason) (e : Epoch) : SelfTestUnit :=
  match t.running with
  | some r => ⟨none, some ⟨r.code, .aborted why, some e⟩⟩
  | none => t

theorem SelfTestUnit.aborted_running (t : SelfTestUnit) (why : AbortReason) (e : Epoch) :
    (t.aborted why e).running = none := by
  unfold SelfTestUnit.aborted
  split
  · rfl
  · next h => exact h

theorem SelfTestUnit.aborted_of_none {t : SelfTestUnit} (h : t.running = none) (why : AbortReason) (e : Epoch) :
    t.aborted why e = t := by
  simp [SelfTestUnit.aborted, h]

theorem SelfTestUnit.aborted_result {t : SelfTestUnit} {r : TestRun} (h : r ∈ t.running) (why : AbortReason) (e : Epoch) :
    (t.aborted why e).result = some ⟨r.code, .aborted why, some e⟩ := by
  rw [Option.mem_def] at h
  simp [SelfTestUnit.aborted, h]

/-- The vote in flight after an abort: a VOTE test no longer runs in it. -/
def State.abortedVote (s : State) : Option VoteInFlight :=
  s.engine.vote.map fun v => { v with testRuns := v.testRuns && !s.tests.runs .vote }

/-- An abort that reaches every test, block by block (R170). -/
theorem State.abortTest_all (s : State) {why : AbortReason} (hwhy : ∀ c, why.reaches c = true) :
    (s.abortTest why).tests = s.tests.aborted why s.timer.epoch ∧
      (s.abortTest why).sensor = { s.sensor with forced := if s.tests.runs .monitor then 0 else s.sensor.forced } ∧
      (s.abortTest why).emulator = (if s.tests.runs .pulse then s.emulator.unhold else s.emulator) ∧
      (s.abortTest why).engine = { rows := s.engine.rows, vote := s.abortedVote } := by
  rcases s.abortTest_cases why with ⟨hnone, heq⟩ | ⟨r, hr, -, heq⟩ <;> rw [heq]
  · have hnot : s.tests.running = none := Option.eq_none_iff_forall_not_mem.2 fun r hr => by
      simpa [hwhy] using hnone r hr
    simp [SelfTestUnit.aborted_of_none hnot, SelfTestUnit.runs_none hnot, State.abortedVote]
  · have hruns (c : TestCode) : s.tests.runs c = decide (r.code = c) := by
      rw [Bool.eq_iff_iff, SelfTestUnit.runs_iff hr, decide_eq_true_iff]
    refine ⟨?_, ?_, ?_, ?_⟩
    · rw [State.finishTest_tests, SelfTestUnit.aborted, hr]
    · rw [State.finishTest_sensor, TestCode.endSensor, hruns]
      by_cases hc : r.code = .monitor <;> simp [hc]
    · rw [State.finishTest_emulator, TestCode.endEmulator, hruns]
      by_cases hc : r.code = .pulse <;> simp [hc]
    · rw [State.abortedVote, hruns]
      cases hc : r.code with
      | vote =>
        show ({ s.engine with vote := s.engine.vote.map fun v => { v with testRuns := false } } : AgreementEngine) = _
        simp
      | inject | monitor | pulse =>
        show s.engine = _
        simp

/-- The TEST_DONE of such an abort. -/
theorem State.abortEvents_all (s : State) {why : AbortReason} (hwhy : ∀ c, why.reaches c = true) :
    s.abortEvents why = (s.tests.running.map fun r => evTestDone s.timer.epoch r.code (.aborted why)).toList := by
  unfold State.abortEvents
  cases s.tests.running <;> simp [hwhy]

theorem AbortReason.lockout_reaches (c : TestCode) : AbortReason.lockout.reaches c = true := rfl

theorem AbortReason.restart_reaches (c : TestCode) : AbortReason.restart.reaches c = true := rfl

/-- Where the outputs stand at their levels, the end of the hold moves none of them. -/
theorem PulseEmulator.unhold_of_ok {e : PulseEmulator} (h : e.ok) : e.unhold = { e with testHold := none } := by
  obtain ⟨-, -, -, ha, hb, hz⟩ := h
  unfold PulseEmulator.unhold
  split
  · simp only [PulseEmulator.show, ← ha, ← hb]
    congr 1
    exact hz.symm
  · next hn =>
    have hnone : e.testHold = none := by simpa using hn
    rw [← hnone]

/-! ### Entry to LOCKOUT (R100) -/

theorem State.enterLockout_rest (s : State) :
    s.enterLockout.tests = s.tests.aborted .lockout s.timer.epoch ∧
      s.enterLockout.sensor = { s.sensor with forced := if s.tests.runs .monitor then 0 else s.sensor.forced } ∧
      s.enterLockout.emulator = (if s.tests.runs .pulse then s.emulator.unhold else s.emulator) ∧
      s.enterLockout.engine.vote = s.abortedVote := by
  have hengine : s.lockedOut.engine.vote = s.engine.vote ∧ s.lockedOut.timer.epoch = s.timer.epoch := by
    simp only [State.lockedOut]
    split <;> exact ⟨rfl, rfl⟩
  obtain ⟨-, hsensor, -, -, -, hemulator, htests⟩ := s.lockedOut_kept
  obtain ⟨h1, h2, h3, h4⟩ := s.lockedOut.abortTest_all AbortReason.lockout_reaches
  rw [State.enterLockout_eq]
  refine ⟨?_, ?_, ?_, ?_⟩
  · rw [h1, htests, hengine.2]
  · rw [h2, hsensor, htests]
  · rw [h3, hemulator, htests]
  · rw [h4, State.abortedVote, State.abortedVote, hengine.1, htests]

/-- An unbind leaves the station a source of no row. -/
theorem unbindRows_not_has (e : Epoch) (rows : List Row) (k : Station) :
    ∀ r ∈ (unbindRows e rows k).1, r.has k = false := by
  rw [unbindRows_fst]
  intro r hr
  obtain ⟨x, -, rfl⟩ := List.mem_map.1 hr
  simp [Row.released_has]

/-- An unbind appends at most one record, where no station is a source of two rows. -/
theorem unbindRows_events_le (e : Epoch) {rows : List Row} (k : Station) (hone : boundOnce rows) :
    (unbindRows e rows k).2.length ≤ 1 := by
  by_cases hhas : ∃ (i : Nat) (r : Row), rows[i]? = some r ∧ r.has k = true
  · obtain ⟨i, r, hi, hr⟩ := hhas
    rw [unbindRows, unbindFrom_snd_of_has e 0 hone hi hr, Row.releaseEvents]
    split <;> simp
  · have hnone : ∀ r ∈ rows, r.has k = false := fun r hr => by
      obtain ⟨i, hi⟩ := List.mem_iff_getElem?.1 hr
      by_contra hne
      exact hhas ⟨i, r, hi, by simpa using hne⟩
    rw [unbindRows, unbindFrom_of_not_has e 0 hnone]
    exact Nat.zero_le _

theorem unbindFrom_events_kind (e : Epoch) (k : Station) (axis : Nat) (rows : List Row) :
    ∀ ev ∈ (unbindFrom e k axis rows).2, ev.kind = .rowState := by
  induction rows generalizing axis with
  | nil => exact nofun
  | cons r rs ih =>
    rw [unbindFrom_cons]
    intro ev hev
    rcases List.mem_append.1 hev with hev | hev
    · unfold Row.releaseEvents at hev
      split at hev
      · obtain rfl := List.mem_singleton.1 hev
        rfl
      · cases hev
    · exact ih _ ev hev

/-! ### DUPLICATE_ID -/

/-- The records of an entry to LOCKOUT by DUPLICATE_ID, block by block. -/
def State.duplicateBlocks (s : State) : List (List EventRecord) :=
  [faultEvents s.faults s.timer.epoch .duplicateId, s.lockoutUnbindEvents, s.lockoutEvents]

theorem State.raiseDuplicateId_of_not_lockout {s : State} (h : s.member.selfState ≠ .lockout) :
    s.raiseDuplicateId = ((s.setFault .duplicateId).enterLockout).emitTogether s.duplicateBlocks := if_neg h

/-- What LOCKOUT by DUPLICATE_ID makes of the blocks other than the Line Controller (R52, R66, R100, R128, R170). -/
structure DuplicateLockout (s t : State) : Prop where
  faults : t.faults = ⟨s.faults.held ||| 0b0010000000#10, true⟩
  timer : t.timer = { s.timer with position := .none, roundOpen := false, deadline := none }
  member : t.member = { s.member with selfState := .lockout, ownBound := false, ownRefused := false }
  rows : t.engine.rows = if s.member.ownBound then (unbindRows s.timer.epoch s.engine.rows s.member.ownStation).1
    else s.engine.rows
  vote : t.engine.vote = s.abortedVote
  store : t.store = s.store
  tests : t.tests = s.tests.aborted .lockout s.timer.epoch
  clock : t.clock = s.clock
  sensor : t.sensor = { s.sensor with forced := if s.tests.runs .monitor then 0 else s.sensor.forced }
  emulator : t.emulator = if s.tests.runs .pulse then s.emulator.unhold else s.emulator
  records : s.port.events.length + s.duplicateBlocks.flatten.length ≤ 32 →
    ∃ new, t.port.events = s.port.events ++ new ∧ new.Perm s.duplicateBlocks.flatten

theorem State.raiseDuplicateId_lockout {s : State} (h : s.member.selfState ≠ .lockout) :
    DuplicateLockout s s.raiseDuplicateId := by
  obtain ⟨htests, hsensor, hemulator, hvote⟩ := (s.setFault .duplicateId).enterLockout_rest
  rw [State.raiseDuplicateId_of_not_lockout h]
  constructor
  · rw [State.emitTogether_faults, State.enterLockout_faults]
    rfl
  · rw [State.emitTogether_timer, State.enterLockout_timer]
    rfl
  · rw [State.emitTogether_member, State.enterLockout_member]
    rfl
  · rw [State.emitTogether_engine, State.enterLockout_rows]
    rfl
  · rw [State.emitTogether_engine, hvote]
    rfl
  · rw [State.emitTogether_store, State.enterLockout_store]
    rfl
  · rw [State.emitTogether_tests, htests]
    rfl
  · rw [State.emitTogether_clock, State.enterLockout_clock]
    rfl
  · rw [State.emitTogether_sensor, hsensor]
    rfl
  · rw [State.emitTogether_emulator, hemulator]
    rfl
  · intro hroom
    have hport : ((s.setFault .duplicateId).enterLockout).port = s.port := by rw [State.enterLockout_port]; rfl
    obtain ⟨new, hnew, hperm, -⟩ := State.emitTogether_events (s.setFault .duplicateId).enterLockout s.duplicateBlocks
      (by rwa [hport])
    exact ⟨new, by rw [hnew, hport], hperm⟩

theorem faultEvents_le (f : FaultRegister) (e : Epoch) (k : FaultKind) : (faultEvents f e k).length ≤ 1 := by
  unfold faultEvents
  split <;> simp

theorem faultEvents_duplicateId (f : FaultRegister) (e : Epoch) :
    faultEvents f e .duplicateId = if f.held.getLsbD 7 then [] else [evFaultHeld e .duplicateId] := rfl

/-- The records of an entry to LOCKOUT: at most one of each kind. -/
theorem State.duplicateBlocks_flatten (s : State) : s.duplicateBlocks.flatten =
    (if s.faults.held.getLsbD 7 then [] else [evFaultHeld s.timer.epoch .duplicateId]) ++
      ((if s.member.ownBound then (unbindRows s.timer.epoch s.engine.rows s.member.ownStation).2 else []) ++
        evStationState s.timer.epoch .lockout ::
          (s.tests.running.map fun r => evTestDone s.timer.epoch r.code (.aborted .lockout)).toList) := by
  rw [State.duplicateBlocks, faultEvents_duplicateId, State.lockoutUnbindEvents, State.unbindOwnEvents,
    State.lockoutEvents, State.abortEvents_all s AbortReason.lockout_reaches]
  simp

/-- A list of records of one kind, as a filter by kind sees it. -/
theorem filter_kind_eq {es : List EventRecord} {k : EventKind} (h : ∀ e ∈ es, e.kind = k) (k' : EventKind) :
    es.filter (fun e => e.kind = k') = if k = k' then es else [] := by
  split
  · next hk => exact List.filter_eq_self.2 fun e he => by simp [h e he, hk]
  · next hk => exact List.filter_eq_nil_iff.2 fun e he => by simp [h e he, hk]

/-- The records of an entry to LOCKOUT by kind, where no station is a source of two rows (R66, R100, R128, R170). -/
theorem State.duplicateBlocks_kinds (s : State) (hone : boundOnce s.engine.rows) :
    s.duplicateBlocks.flatten.length ≤ 4 ∧
      ∀ new : List EventRecord, new.Perm s.duplicateBlocks.flatten →
        (∀ e ∈ new, e.kind ∈ [EventKind.stationState, .faultHeld, .testDone, .rowState]) ∧
        new.filter (fun e => e.kind = .stationState) = [evStationState s.timer.epoch .lockout] ∧
        new.filter (fun e => e.kind = .faultHeld) =
          (if s.faults.held.getLsbD 7 then [] else [evFaultHeld s.timer.epoch .duplicateId]) ∧
        new.filter (fun e => e.kind = .testDone) =
          (s.tests.running.map fun r => evTestDone s.timer.epoch r.code (.aborted .lockout)).toList ∧
        new.filter (fun e => e.kind = .rowState) =
          (if s.member.ownBound then (unbindRows s.timer.epoch s.engine.rows s.member.ownStation).2 else []) := by
  rw [State.duplicateBlocks_flatten]
  set fault : List EventRecord := if s.faults.held.getLsbD 7 then [] else [evFaultHeld s.timer.epoch .duplicateId]
    with hfaultdef
  set unbound : List EventRecord :=
    if s.member.ownBound then (unbindRows s.timer.epoch s.engine.rows s.member.ownStation).2 else [] with hunbounddef
  set done : List EventRecord :=
    (s.tests.running.map fun r => evTestDone s.timer.epoch r.code (.aborted .lockout)).toList with hdonedef
  have hfault : fault.length ≤ 1 ∧ ∀ e ∈ fault, e.kind = .faultHeld := by
    rw [hfaultdef]
    split <;> simp [evFaultHeld]
  have hunbound : unbound.length ≤ 1 ∧ ∀ e ∈ unbound, e.kind = .rowState := by
    rw [hunbounddef]
    split
    · exact ⟨unbindRows_events_le _ _ hone, unbindFrom_events_kind _ _ _ _⟩
    · exact ⟨Nat.zero_le _, nofun⟩
  have hdone : done.length ≤ 1 ∧ ∀ e ∈ done, e.kind = .testDone := by
    rw [hdonedef]
    cases s.tests.running <;> simp [evTestDone]
  refine ⟨by simp only [List.length_append, List.length_cons]; omega, fun new hperm => ⟨fun e he => ?_, ?_⟩⟩
  · rw [hperm.mem_iff, List.mem_append, List.mem_append, List.mem_cons] at he
    rcases he with he | he | rfl | he
    · simp [hfault.2 e he]
    · simp [hunbound.2 e he]
    · simp [evStationState]
    · simp [hdone.2 e he]
  · have hfilter (k : EventKind) : (fault ++ (unbound ++ evStationState s.timer.epoch .lockout :: done)).filter
        (fun e => e.kind = k) = (if .faultHeld = k then fault else []) ++ ((if .rowState = k then unbound else []) ++
          ((if EventKind.stationState = k then [evStationState s.timer.epoch .lockout] else []) ++
            if .testDone = k then done else [])) := by
      rw [List.filter_append, List.filter_append, ← List.singleton_append, List.filter_append,
        filter_kind_eq hfault.2, filter_kind_eq hunbound.2, filter_kind_eq hdone.2,
        filter_kind_eq (k := .stationState) (es := [evStationState s.timer.epoch .lockout]) (by simp [evStationState])]
    refine ⟨?_, ?_, ?_, ?_⟩
    all_goals rw [filter_of_perm hperm _ (by rw [hfilter]; simp [hfault.1, hunbound.1, hdone.1]), hfilter]
    all_goals simp

end Sys2Proof.Machine
end

section
/-! SUPPORT. The three ways into LOCKOUT by DUPLICATE_ID, and what a received frame and a received notice are taken for (Tables 4-4,
6-3 and 6-4). -/

namespace Sys2Proof.Machine

/-! ### The effect of DUPLICATE_ID, fact by fact -/

section
variable {s t : State} (h : DuplicateLockout s t)
include h

theorem DuplicateLockout.selfState : t.member.selfState = .lockout := by rw [h.member]

theorem DuplicateLockout.position : t.timer.position = .none := by rw [h.timer]

theorem DuplicateLockout.rows_of_bound (hb : s.member.ownBound = true) :
    t.engine.rows = (unbindRows s.timer.epoch s.engine.rows s.member.ownStation).1 := by
  rw [h.rows, if_pos hb]

theorem DuplicateLockout.rows_of_not_bound (hb : s.member.ownBound = false) : t.engine.rows = s.engine.rows := by
  rw [h.rows, if_neg (by simp [hb])]

theorem DuplicateLockout.running : t.tests.running = none := by
  rw [h.tests]
  exact SelfTestUnit.aborted_running ..

theorem DuplicateLockout.result (r : TestRun) (hr : r ∈ s.tests.running) :
    t.tests.result = some ⟨r.code, .aborted .lockout, some s.timer.epoch⟩ := by
  rw [h.tests, SelfTestUnit.aborted_result hr]

theorem DuplicateLockout.tests_of_none (hr : s.tests.running = none) : t.tests = s.tests := by
  rw [h.tests, SelfTestUnit.aborted_of_none hr]

theorem DuplicateLockout.emulator_of_not_pulse (hp : s.tests.runs .pulse = false) : t.emulator = s.emulator := by
  rw [h.emulator, if_neg (by simp [hp])]

theorem DuplicateLockout.emulator_of_sound (hsound : s.emulatorSound) : t.emulator = { s.emulator with
    testHold := if s.tests.runs .pulse then none else s.emulator.testHold } := by
  rw [h.emulator]
  split
  · exact PulseEmulator.unhold_of_ok hsound
  · rfl

theorem DuplicateLockout.events (hroom : s.port.events.length ≤ 20) (hone : boundOnce s.engine.rows) :
    ∃ new, t.port.events = s.port.events ++ new ∧
      (∀ e ∈ new, e.kind ∈ [EventKind.stationState, .faultHeld, .testDone, .rowState]) ∧
      new.filter (fun e => e.kind = .stationState) = [evStationState s.timer.epoch .lockout] ∧
      new.filter (fun e => e.kind = .faultHeld) =
        (if s.faults.held.getLsbD 7 then [] else [evFaultHeld s.timer.epoch .duplicateId]) ∧
      new.filter (fun e => e.kind = .testDone) =
        (s.tests.running.map fun r => evTestDone s.timer.epoch r.code (.aborted .lockout)).toList ∧
      new.filter (fun e => e.kind = .rowState) =
        (if s.member.ownBound then (unbindRows s.timer.epoch s.engine.rows s.member.ownStation).2 else []) := by
  obtain ⟨hlen, hkinds⟩ := s.duplicateBlocks_kinds hone
  obtain ⟨new, hnew, hperm⟩ := h.records (by omega)
  exact ⟨new, hnew, hkinds new hperm⟩

end

theorem State.raiseDuplicateId_line {s : State} (h : s.member.selfState ≠ .lockout) : s.raiseDuplicateId.line =
    { s.line with notices := [], noticeSend := .idle, receiver := .off, awaiting := false } := by
  rw [State.raiseDuplicateId_of_not_lockout h, State.emitTogether_line, State.enterLockout_line]
  rfl

/-- Settles O19. -/
theorem collisionJudgementLocksOut : Obligations.CollisionJudgementLocksOut := by
  intro s hawait hself
  have hlock := State.raiseDuplicateId_lockout (s := { s with line.awaiting := false }) hself
  have hline := State.raiseDuplicateId_line (s := { s with line.awaiting := false }) hself
  refine ⟨_, congrArg Host.Outcome.next (if_pos hawait), hlock.selfState, hlock.faults, hlock.timer, hline,
    hlock.member, fun hb => ⟨hlock.rows_of_bound hb, ?_⟩, hlock.rows_of_not_bound, hlock.store, hlock.running,
    hlock.result, hlock.tests_of_none, hlock.clock, hlock.sensor, hlock.emulator_of_not_pulse,
    hlock.emulator_of_sound, hlock.vote, hlock.events⟩
  rw [hlock.rows_of_bound hb]
  exact unbindRows_not_has _ _ _

/-! ### A received sample frame (Table 4-4) -/

/-- A frame is taken only by a receiver that has found the sync, and only when it opens with the sync (R67, R172). -/
theorem exec_frameReceived {frame : BitVec 102} {k : Station} {s : State} (hdrawn : s.drawn = true)
    (hpos : s.timer.position = .slot k) : exec (.frameReceived frame) s =
      .next (if s.line.receiver = .receiving ∧ sampleSyncOk frame then s.takeFrame k frame else s) := by
  refine congrArg Host.Outcome.next ?_
  rw [hpos]
  simp only [hdrawn, true_and]

/-- A frame that is taken, by the check it fails. -/
theorem State.takeFrame_eq (s : State) (k : Station) (frame : BitVec 102) : s.takeFrame k frame =
    if s.frameFault k frame = some .duplicateId
    then State.raiseDuplicateId { s with
      line.buffer := s.line.buffer.set k.toNat (.invalid .duplicateId), line.receiver := .settled }
    else { s with
      line.buffer := s.line.buffer.set k.toNat (s.frameToRecord k frame), line.receiver := .settled } := by
  unfold State.takeFrame
  split
  · next hf => simp only [State.frameToRecord, hf]
  · rfl

theorem State.takeFrame_of_fault {s : State} {k : Station} {frame : BitVec 102} {reason : InvalidReason}
    (hf : s.frameFault k frame = some reason) (hne : reason ≠ .duplicateId) : s.takeFrame k frame = { s with
      line.buffer := s.line.buffer.set k.toNat (.invalid reason), line.receiver := .settled } := by
  rw [State.takeFrame_eq, if_neg (by simpa [hf] using hne), State.frameToRecord, hf]

theorem State.takeFrame_of_valid {s : State} {k : Station} {frame : BitVec 102} (hf : s.frameFault k frame = none) :
    s.takeFrame k frame = { s with
      line.buffer := s.line.buffer.set k.toNat (.valid (sampleRecord frame)), line.receiver := .settled } := by
  rw [State.takeFrame_eq, if_neg (by simp [hf]), State.frameToRecord, hf]

/-- Settles O20, check by check. -/
theorem sampleFrameTakesItsForm : Obligations.SampleFrameTakesItsForm := by
  intro frame k s hseen hself hpos
  have hexec := exec_frameReceived (frame := frame) (State.drawn_of hseen hself) hpos
  refine ⟨fun hnot => ?_, fun hr hsync => ?_⟩
  · rw [hexec, if_neg]
    rintro ⟨hr, hsync⟩
    rcases hnot with h | h
    · exact h hr
    · exact h ((sampleSyncOk_iff frame).1 hsync)
  rw [hexec, if_pos ⟨hr, (sampleSyncOk_iff frame).2 hsync⟩]
  have htaken {reason : InvalidReason} (hf : s.frameFault k frame = some reason) (hne : reason ≠ .duplicateId) :=
    congrArg (Host.Outcome.next (φ := Fault) (ρ := Refusal)) (State.takeFrame_of_fault hf hne)
  refine ⟨fun hcheck => htaken (by simp [State.frameFault, hcheck]) (by decide),
    fun hcheck hplan => htaken (by simp [State.frameFault, hcheck, hplan]) (by decide),
    fun hcheck hplan hslot => htaken (by simp [State.frameFault, hcheck, hplan, hslot]) (by decide),
    fun hcheck hplan hslot hown => ?_,
    fun hcheck hplan hslot hown hst => htaken (by simp [State.frameFault, hcheck, hplan, hslot, hown, hst]) (by decide),
    fun hcheck hplan hslot hown hst => ?_⟩
  · rw [State.takeFrame_of_valid]
    simp [State.frameFault, hcheck, hplan, hslot, hown]
  · have hfault : s.frameFault k frame = some .duplicateId := by
      simp [State.frameFault, hcheck, hplan, hslot, hown, hst]
    have hlock := State.raiseDuplicateId_lockout
      (s := { s with line.buffer := s.line.buffer.set k.toNat (.invalid .duplicateId), line.receiver := .settled }) hself
    have hline := State.raiseDuplicateId_line
      (s := { s with line.buffer := s.line.buffer.set k.toNat (.invalid .duplicateId), line.receiver := .settled }) hself
    rw [State.takeFrame_eq, if_pos hfault]
    refine ⟨_, rfl, by rw [hline], hlock.selfState, hlock.faults, hlock.position, hlock.timer, by rw [hline],
      hlock.store, by rw [hline], by rw [hline], by rw [hline], hlock.member, hlock.rows_of_bound,
      hlock.rows_of_not_bound, hlock.running, hlock.result, hlock.tests_of_none, hlock.clock, hlock.sensor,
      hlock.emulator_of_not_pulse, hlock.emulator_of_sound, hlock.vote, hlock.events⟩

/-! ### A received notice (Tables 6-3, 6-4) -/

theorem NoticeSend.not_sending {n : NoticeSend} (h : n = .idle ∨ n = .lost) : n.isSending = false := by
  rcases h with rfl | rfl <;> rfl

/-- A notice is judged only by a receiver that has found the sync, and only when it opens with the sync (R111, R172). -/
theorem exec_noticeReceived {frame : BitVec 49} {s : State} (hdrawn : s.drawn = true)
    (hopen : s.timer.roundOpen = true) (hsend : s.line.noticeSend = .idle ∨ s.line.noticeSend = .lost) :
    exec (.noticeReceived frame) s =
      .next (if s.line.receiver = .receiving ∧ noticeSyncOk frame then s.receiveNotice frame else s) := by
  refine congrArg Host.Outcome.next ?_
  simp only [hdrawn, hopen, NoticeSend.not_sending hsend, true_and]

/-- The checks of Table 6-3. -/
theorem State.noticePasses_iff (s : State) (frame : BitVec 49) : s.noticePasses frame = true ↔
    noticeCheckOk frame = true ∧ (noticeFields frame).plan = s.timer.plan ∧
      (noticeFields frame).epochLow = s.timer.epoch.setWidth 8 ∧ (noticeFields frame).station.toNat < s.plan.n := by
  simp [State.noticePasses, epochLow, and_assoc]

/-- Settles O40. -/
theorem noticeIsDiscardedOrLocksOut : Obligations.NoticeIsDiscardedOrLocksOut := by
  intro frame s hseen hself hopen hsend
  have hexec := exec_noticeReceived (frame := frame) (State.drawn_of hseen hself) hopen hsend
  refine ⟨fun hnot => ?_, fun hr hsync => ?_⟩
  · rw [hexec, if_neg]
    rintro ⟨hr, hsync⟩
    rcases hnot with h | h
    · exact h hr
    · exact h ((noticeSyncOk_iff frame).1 hsync)
  rw [hexec, if_pos ⟨hr, (noticeSyncOk_iff frame).2 hsync⟩]
  refine ⟨fun hfail => ?_, fun hcheck hplan hepoch hrange hown => ?_⟩
  · have hnot : ¬ s.noticePasses frame = true := by
      rw [State.noticePasses_iff]
      rintro ⟨hcheck, hplan, hepoch, hrange⟩
      rcases hfail with h | h | h | h
      · rw [hcheck] at h; cases h
      · exact h hplan
      · exact h hepoch
      · omega
    exact congrArg Host.Outcome.next (if_neg hnot)
  · have hpass : s.noticePasses frame = true := (s.noticePasses_iff frame).2 ⟨hcheck, hplan, hepoch, hrange⟩
    have hlock := State.raiseDuplicateId_lockout (s := { s with line.receiver := .settled }) hself
    have hline := State.raiseDuplicateId_line (s := { s with line.receiver := .settled }) hself
    have htaken : s.receiveNotice frame = State.raiseDuplicateId { s with line.receiver := .settled } :=
      (if_pos hpass).trans (if_pos hown)
    rw [htaken]
    exact ⟨_, rfl, hlock.selfState, hlock.faults, by rw [hline], hlock.timer, hlock.store, by rw [hline],
      by rw [hline], by rw [hline], by rw [hline], hlock.member, hlock.rows_of_bound, hlock.rows_of_not_bound,
      hlock.running, hlock.result, hlock.tests_of_none, hlock.clock, hlock.sensor, hlock.emulator_of_not_pulse,
      hlock.emulator_of_sound, hlock.vote, hlock.events⟩

/-- Settles O41, kind by kind. -/
theorem noticeActsOnSender : Obligations.NoticeActsOnSender := by
  intro frame s k hseen hself hopen hr hsend hsync hcheck hplan hepoch hk hrange hown
  have hexec := exec_noticeReceived (frame := frame) (State.drawn_of hseen hself) hopen hsend
  rw [if_pos ⟨hr, (noticeSyncOk_iff frame).2 hsync⟩] at hexec
  have hpass : s.noticePasses frame = true :=
    (s.noticePasses_iff frame).2 ⟨hcheck, hplan, hepoch, hk.symm ▸ hrange⟩
  have htaken : s.receiveNotice frame = State.takeNotice { s with line.receiver := .settled } (noticeFields frame) :=
    (if_pos hpass).trans (if_neg (hk.symm ▸ hown))
  rw [htaken] at hexec
  subst hk
  refine ⟨fun hkind => ?_, fun hkind => ?_, fun hkind => ?_, fun hkind hst => ?_, fun hkind hst hb => ?_,
    fun hkind hst hb => ?_⟩
  all_goals rw [hexec]; refine congrArg Host.Outcome.next ?_; rw [State.takeNotice, hkind]
  · rfl
  · rfl
  · rfl
  · exact if_pos hst
  · exact (if_neg hst).trans (if_neg (Bool.eq_false_iff.1 hb))
  · exact (if_neg hst).trans (if_pos hb)

end Sys2Proof.Machine
end

section
/-! SUPPORT. Transactions of the local port and the commands that answer from one block: what the port takes, what a posting
leaves, and the answers (R105, R130, R147 to R149, R164, R171). -/

namespace Sys2Proof.Machine

/-! ### What a transaction takes -/

/-- A command with an argument is taken in COMMAND and in its own ARGUMENTS (R148; log 18). -/
theorem State.takes_of_argument {s : State} {c : LocalCommand} (hc : c.hasArgument = true)
    (h : s.port.txn = .command ∨ s.port.txn = .arguments c) : s.takes c = true := by
  rcases h with h | h
  · exact s.takes_of_command h c
  · simp [State.takes, hc, h]

/-- The thirteen command bytes (Table 11-5). -/
theorem LocalCommand.toByte_mem (c : LocalCommand) :
    c.toByte ∈ [0x01#8, 0x02#8, 0x10#8, 0x11#8, 0x12#8, 0x20#8, 0x30#8, 0x40#8, 0x41#8, 0x4F#8, 0x50#8, 0x51#8, 0x60#8] := by
  cases c <;> decide

theorem LocalCommand.ofByte_eq_none {b : Byte}
    (h : b ∉ [0x01#8, 0x02#8, 0x10#8, 0x11#8, 0x12#8, 0x20#8, 0x30#8, 0x40#8, 0x41#8, 0x4F#8, 0x50#8, 0x51#8, 0x60#8]) :
    LocalCommand.ofByte b = none := by
  refine Option.eq_none_iff_forall_ne_some.2 fun c hc => h ?_
  rw [LocalCommand.ofByte_eq_some hc]
  exact LocalCommand.toByte_mem c

/-- The row a command byte brings, written as a table. -/
theorem commandByteRow_table (b : Byte) : commandByteRow b =
    if b = 0x01 then .readStatus else if b = 0x10 then .pin else if b = 0x11 then .unpin
    else if b = 0x12 then .readPage else if b = 0x20 then .readPeers else if b = 0x30 then .clearFaults
    else if b = 0x40 then .withdraw else if b = 0x41 then .rejoin else if b = 0x4F then .restart
    else if b = 0x51 then .clearResult else if b = 0x02 ∨ b = 0x50 ∨ b = 0x60 then .commandByte b
    else .badCommand b := by
  by_cases hmem : b ∈ [0x01#8, 0x02#8, 0x10#8, 0x11#8, 0x12#8, 0x20#8, 0x30#8, 0x40#8, 0x41#8, 0x4F#8, 0x50#8, 0x51#8, 0x60#8]
  · simp only [List.mem_cons, List.not_mem_nil, or_false] at hmem
    rcases hmem with rfl | rfl | rfl | rfl | rfl | rfl | rfl | rfl | rfl | rfl | rfl | rfl | rfl <;> rfl
  · simp only [commandByteRow, LocalCommand.ofByte_eq_none hmem]
    simp only [List.mem_cons, List.not_mem_nil, or_false, not_or] at hmem
    obtain ⟨h1, h2, h3, h4, h5, h6, h7, h8, h9, h10, h11, h12, h13⟩ := hmem
    simp [*]

theorem SnapshotStore.releaseTransaction_of_none {st : SnapshotStore} (h : ∀ p, st.pin ≠ some ⟨p, .transaction⟩) :
    st.releaseTransaction = st := by
  unfold SnapshotStore.releaseTransaction
  split
  next p hp => exact absurd hp (h p)
  next => rfl

theorem SnapshotStore.releaseTransaction_of_pin {st : SnapshotStore} {p : PageNumber}
    (h : st.pin = some ⟨p, .transaction⟩) : st.releaseTransaction = { st with pin := none } := by
  simp [SnapshotStore.releaseTransaction, h]

theorem LocalPort.brings_of_ignoring {p : LocalPort} (h : p.txn = .closed ∨ p.txn = .response ∨ p.txn = .ignore)
    (b : Byte) : p.brings b = none := by
  rcases h with h | h | h <;> simp [LocalPort.brings, h]

theorem LocalPort.sdo_of_open {p : LocalPort} (h : p.txn = .command ∨ ∃ c, p.txn = .arguments c) (i : Nat) :
    p.sdo i = some 0xFF := by
  rcases h with h | ⟨c, h⟩ <;> simp [LocalPort.sdo, h, fillerByte]

theorem LocalPort.sdo_of_answer {p : LocalPort} (h : p.txn = .response ∨ p.txn = .ignore) (i : Nat) :
    p.sdo i = some (p.response.getD i 0xFF) := by
  rcases h with h | h <;> simp [LocalPort.sdo, h, fillerByte]

theorem LocalPort.sdo_past_answer {p : LocalPort} (h : p.txn = .response ∨ p.txn = .ignore) {i : Nat}
    (hi : p.response.length ≤ i) : p.sdo i = some 0xFF := by
  rw [LocalPort.sdo_of_answer h, List.getD_eq_default _ _ hi]

/-- Settles O42: transactions, what a byte brings and what SDO shows. -/
theorem transactionsOpenAndClose : Obligations.TransactionsOpenAndClose := by
  intro s
  refine ⟨fun hlow => ?_, fun hlow hpin => ?_, fun hlow ⟨p, hpin⟩ => ?_, fun hcmd => ?_, fun b hcmd hb => ?_,
    fun hcmd b => ?_, fun b => ⟨s.port.brings_of_arguments b _, s.port.brings_of_arguments b _,
      s.port.brings_of_arguments b _, fun h => LocalPort.brings_of_ignoring h b⟩,
    fun i => ⟨s.port.sdo_of_closed i, fun h => LocalPort.sdo_of_open h i, fun h => ⟨fun b hb => ?_, fun hi =>
      LocalPort.sdo_past_answer h hi⟩⟩⟩
  · exact congrArg Host.Outcome.next (if_neg (by simp [hlow]))
  · refine congrArg Host.Outcome.next ((if_pos hlow).trans ?_)
    rw [SnapshotStore.releaseTransaction_of_none hpin]
  · refine congrArg Host.Outcome.next ((if_pos hlow).trans ?_)
    rw [SnapshotStore.releaseTransaction_of_pin hpin]
  · exact ⟨congrArg Host.Outcome.next (if_pos ⟨hcmd, rfl⟩), congrArg Host.Outcome.next (if_pos ⟨hcmd, rfl⟩),
      congrArg Host.Outcome.next (if_pos ⟨hcmd, rfl⟩)⟩
  · exact congrArg Host.Outcome.next (if_pos ⟨hcmd, LocalCommand.ofByte_eq_none hb⟩)
  · rw [LocalPort.brings_of_command _ _ hcmd, commandByteRow_table]
  · rw [LocalPort.sdo_of_answer h, List.getD_eq_getElem?_getD, hb, Option.getD_some]

/-! ### The Event Queue's delivery (R147) -/

/-- Bits one after another are read as one number, the first ones high. -/
theorem append_toNat {w v : Nat} (x : BitVec w) (y : BitVec v) : (x ++ y).toNat = x.toNat * 2 ^ v + y.toNat := by
  rw [BitVec.toNat_append, ← Nat.shiftLeft_add_eq_or_of_lt y.isLt, Nat.shiftLeft_eq]

theorem bytes16_eq (x : BitVec 16) : bytes16 x = [x.extractLsb' 8 8, x.extractLsb' 0 8] := by
  simp [bytes16, BitVec.setWidth_eq_extractLsb']

/-- The byte with n and OVERFLOW (Table 11-5), and the queue's length in the status block. -/
theorem overflowByte_eq (b : Bool) {n : Nat} (h : n ≤ 32) :
    BitVec.ofNat 8 (n + 128 * b.toNat) = BitVec.ofBool b ++ 0#1 ++ BitVec.ofNat 6 n := by
  refine BitVec.eq_of_toNat_eq ?_
  simp only [append_toNat, BitVec.toNat_ofNat, BitVec.toNat_ofBool]
  have := b.toNat_le
  omega

/-- The present bits of a record (Table 11-8). -/
theorem presentByte_eq (station axis argument : Bool) :
    BitVec.ofNat 8 (station.toNat + 2 * axis.toNat + 4 * argument.toNat) =
      0#5 ++ BitVec.ofBool argument ++ BitVec.ofBool axis ++ BitVec.ofBool station := by
  revert station axis argument
  decide

theorem setWidth_eq_append {w : Nat} (x : BitVec w) (v : Nat) : x.setWidth (v + w) = 0#v ++ x := by
  refine BitVec.eq_of_toNat_eq ?_
  rw [append_toNat, BitVec.toNat_setWidth, BitVec.toNat_ofNat, Nat.zero_mod, Nat.zero_mul, Nat.zero_add]
  exact Nat.mod_eq_of_lt (x.isLt.trans_le (Nat.pow_le_pow_right two_pos (Nat.le_add_left ..)))

theorem EventRecord.bytes_eq (r : EventRecord) : r.bytes =
    [BitVec.ofNat 8 r.kind.code] ++ [r.epoch.extractLsb' 8 8, r.epoch.extractLsb' 0 8] ++
      [0#5 ++ BitVec.ofBool r.argument.isSome ++ BitVec.ofBool r.axis.isSome ++ BitVec.ofBool r.station.isSome,
        0#4 ++ r.station.getD 0, 0#5 ++ r.axis.getD 0, r.argument.getD 0] := by
  rw [EventRecord.bytes, bytes16_eq, presentByte_eq, setWidth_eq_append _ 4, setWidth_eq_append _ 5]

/-- Settles O44: counts out of range, the bytes of a valid one, and a delivery. -/
theorem eventsAreReadAndDelivered : Obligations.EventsAreReadAndDelivered := by
  intro s two recordBytes
  have hbytes : EventRecord.bytes = recordBytes := funext EventRecord.bytes_eq
  refine ⟨fun count htxn => ⟨fun hcount => ?_, fun hpos hmax => ?_⟩, fun r rest htxn hdeliver hevents => ⟨rfl, ?_⟩⟩
  · refine congrArg Host.Outcome.next ((if_pos (State.takes_of_argument rfl htxn)).trans (if_neg ?_))
    rcases hcount with rfl | h
    · decide
    · omega
  · refine congrArg Host.Outcome.next ((if_pos (State.takes_of_argument rfl htxn)).trans ((if_pos ⟨hpos, hmax⟩).trans ?_))
    have hmin : min count.toNat s.port.events.length ≤ 32 := by omega
    have hoverflow : (s.port.overflow && min count.toNat s.port.events.length != 0) =
        if s.port.events = [] then false else s.port.overflow := by
      cases hevents : s.port.events with
      | nil => simp
      | cons e es => simp; omega
    have htake : s.port.events.take (min count.toNat s.port.events.length) = s.port.events.take count.toNat := by
      rw [List.take_eq_take_iff]; omega
    simp only [State.readEvents, State.answer, overflowByte_eq _ hmin, hoverflow, htake, hbytes, List.flatMap]
    rfl
  · refine congrArg Host.Outcome.next ((if_pos ⟨htxn, hdeliver⟩).trans ?_)
    have hoverflow : (s.port.overflow && !(s.port.toDeliver == 1 && rest.isEmpty)) =
        if s.port.toDeliver = 1 ∧ rest = [] then false else s.port.overflow := by
      by_cases h : s.port.toDeliver = 1 ∧ rest = []
      · simp [h]
      · rw [if_neg h]
        cases rest with
        | nil => simp_all
        | cons => simp
    simp only [hevents, List.tail_cons, hoverflow]

/-! ### Postings (R105) -/

theorem noticePending_iff {q : List NoticeEntry} {k : NoticeKind} : noticePending q k = true ↔ ∃ e ∈ q, e.kind = k := by
  simp [noticePending]

theorem postNotice_of_none {q : List NoticeEntry} {k : NoticeKind} (h : ∀ e ∈ q, e.kind ≠ k) (arg : Byte) :
    postNotice q k arg = q ++ [⟨k, arg, 0, false, false⟩] :=
  if_neg fun hp => by
    obtain ⟨e, he, hk⟩ := noticePending_iff.1 hp
    exact h e he hk

theorem postNotice_of_pending {q : List NoticeEntry} {k : NoticeKind} (h : ∃ e ∈ q, e.kind = k) (arg : Byte) :
    postNotice q k arg = q.map fun e => if e.kind = k then e.repost arg else e :=
  if_pos (noticePending_iff.2 h)

/-- A posting in one expression, for what it leaves of a pending entry of the kind. -/
theorem postNotice_eq {k : NoticeKind} {arg : Byte} {f : NoticeEntry → NoticeEntry}
    (hf : ∀ e : NoticeEntry, e.kind = k → e.repost arg = f e) (q : List NoticeEntry) : postNotice q k arg =
      if ∃ e ∈ q, e.kind = k then q.map fun e => if e.kind = k then f e else e
      else q ++ [⟨k, arg, 0, false, false⟩] := by
  by_cases h : ∃ e ∈ q, e.kind = k
  · rw [if_pos h, postNotice_of_pending h]
    refine List.map_congr_left fun e _ => ?_
    by_cases he : e.kind = k
    · rw [if_pos he, if_pos he, hf e he]
    · rw [if_neg he, if_neg he]
  · rw [if_neg h, postNotice_of_none (by simpa using h)]

/-- The entry a posting leaves in place of a pending one, by its kind. -/
theorem NoticeEntry.repost_eq {e : NoticeEntry} (h : e.kind ≠ .user) (arg : Byte) : e.repost arg =
    { e with argument := arg, rounds := if e.kind = .fault then e.rounds else 0,
             replaced := e.inFlight || e.replaced } := by
  obtain ⟨kind, argument, rounds, inFlight, replaced⟩ := e
  cases kind with
  | user => exact absurd rfl h
  | leave | fault | test => rfl

/-- Settles O50: the refusals of POST_NOTICE, the posting it makes, and the postings by a block. -/
theorem postNoticeAddsUserEntry : Obligations.PostNoticeAddsUserEntry := by
  refine ⟨fun q kind arg hkind => ⟨fun h => postNotice_of_none h arg, fun h => ?_⟩, fun value s htxn => ?_⟩
  · rw [postNotice_of_pending h]
    refine List.map_congr_left fun e _ => ?_
    by_cases he : e.kind = kind
    · simp only [NoticeEntry.repost_eq (he ▸ hkind), Bool.or_comm e.replaced, he]
    · simp only [if_neg he]
  · have htakes : s.takes .postNotice = true := State.takes_of_argument rfl htxn
    refine ⟨fun hlock => ?_, fun hlock huser => ?_, fun hlock huser => ?_⟩
    · exact congrArg Host.Outcome.next ((if_pos htakes).trans (if_pos hlock))
    · exact congrArg Host.Outcome.next ((if_pos htakes).trans ((if_neg hlock).trans (if_pos (noticePending_iff.2 huser))))
    · refine congrArg Host.Outcome.next ((if_pos htakes).trans ((if_neg hlock).trans ((if_neg ?_).trans ?_)))
      · rw [noticePending_iff]
        exact fun ⟨e, he, hk⟩ => huser e he hk
      · simp only [State.answer, State.post, postNotice_of_none huser, Status.byte]
        rfl

/-! ### Faults and tests (R130, R164, R171) -/

/-- CLEAR_FAULTS, block by block. -/
theorem State.clearFaults_eq (s : State) : s.clearFaults = { s with
    faults := s.faults.clear s.sensor.liveKinds
    line := s.line.posted (faultPosts s.member.selfState s.faults.held (s.faults.clear s.sensor.liveKinds).held) } := by
  unfold State.clearFaults State.postFaultChange faultPosts
  split <;> rfl

/-- The FAULT that an event posts in ACTIVE for a change of the reported part (R105, R132). -/
theorem posted_faultPosts (l : LineController) {before after : FaultSet}
    (h : reportedPart after ≠ reportedPart before) : l.posted (faultPosts .active before after) = { l with
    notices :=
      if ∃ e ∈ l.notices, e.kind = .fault
      then l.notices.map fun e => if e.kind = .fault
        then { e with argument := (reportedPart after).setWidth 8, replaced := e.inFlight || e.replaced } else e
      else l.notices ++ [⟨.fault, (reportedPart after).setWidth 8, 0, false, false⟩] } := by
  rw [faultPosts, if_pos ⟨h.symm, rfl⟩]
  refine congrArg (fun q => { l with notices := q }) (postNotice_eq (fun e he => ?_) l.notices)
  rw [NoticeEntry.repost_eq (he ▸ nofun), if_pos he]
  rfl

theorem faultPosts_of_quiet {self : SelfState} {before after : FaultSet}
    (h : self ≠ .active ∨ reportedPart after = reportedPart before) : faultPosts self before after = [] :=
  if_neg fun ⟨hpart, hactive⟩ => h.elim (· hactive) fun heq => hpart heq.symm

/-- Settles O46: what CLEAR_FAULTS keeps, and the FAULT it posts. -/
theorem clearFaultsKeepsLiveKinds : Obligations.ClearFaultsKeepsLiveKinds := by
  intro s htxn
  refine ⟨_, congrArg Host.Outcome.next (if_pos (s.takes_of_command htxn .clearFaults)), ?_⟩
  obtain ⟨hheld, hflt⟩ := s.faults.clear_flt s.sensor.liveKinds
  rw [State.clearFaults_eq]
  refine ⟨hheld, hflt, rfl, rfl, rfl, rfl, rfl, rfl, rfl, rfl, rfl, rfl, fun hactive hpart => ?_, fun hquiet => ?_⟩
  · rw [State.answer_line, hactive]
    exact posted_faultPosts s.line hpart
  · rw [State.answer_line]
    exact congrArg s.line.posted (faultPosts_of_quiet hquiet)

theorem TestCode.ofByte_of_code {c : TestCode} {b : Byte} (h : c.code = b.toNat) : TestCode.ofByte b = some c := by
  unfold TestCode.ofByte
  rw [← h]
  cases c <;> rfl

theorem TestCode.ofByte_eq_none {b : Byte} (h : b = 0 ∨ 4 < b.toNat) : TestCode.ofByte b = none := by
  unfold TestCode.ofByte
  split <;> try rfl
  all_goals
    rename_i hb
    rcases h with rfl | h
    · exact absurd hb (by decide)
    · omega

theorem TestCode.exists_code {b : Byte} (hpos : 1 ≤ b.toNat) (hmax : b.toNat ≤ 4) : ∃ c : TestCode, c.code = b.toNat := by
  interval_cases h : b.toNat
  · exact ⟨.inject, rfl⟩
  · exact ⟨.monitor, rfl⟩
  · exact ⟨.vote, rfl⟩
  · exact ⟨.pulse, rfl⟩

theorem TestCode.marksSample_iff {c : TestCode} : c.marksSample = true ↔ c.code ≤ 2 := by
  cases c <;> decide

/-- START_TEST, once taken, by R164's cases. -/
theorem exec_startTest {s : State} (h : s.port.txn = .command ∨ s.port.txn = .arguments .startTest) (code : Byte) :
    exec (.startTest code) s = .next (s.takeStartTest code) :=
  congrArg Host.Outcome.next (if_pos (State.takes_of_argument rfl h))

theorem State.takeStartTest_of_none {code : Byte} (h : TestCode.ofByte code = none) (s : State) :
    s.takeStartTest code = s.answer .badArgument [] := by
  simp only [State.takeStartTest, h]

theorem State.takeStartTest_of_code {code : Byte} {c : TestCode} (h : c.code = code.toNat) (s : State) :
    s.takeStartTest code = if s.tests.running.isSome then s.answer .busy []
      else if s.testRefused c then s.answer .wrongState [] else (s.startTest c).answer .ok [] := by
  simp only [State.takeStartTest, TestCode.ofByte_of_code h]

theorem State.testRefused_iff {s : State} {c : TestCode} : s.testRefused c = true ↔
    s.member.selfState = .lockout ∨ s.member.selfState = .joining ∧ c.code ≤ 2 := by
  simp only [State.testRefused, Bool.or_eq_true, Bool.and_eq_true, beq_iff_eq, TestCode.marksSample_iff]
  tauto

/-- The START notice of INJECT and MONITOR in ACTIVE (R105, R164). -/
theorem posted_startPosts (l : LineController) {c : TestCode} {code : Byte} (hcode : c.code = code.toNat)
    (hc : code.toNat ≤ 2) : l.posted (startPosts .active c) = { l with
    notices :=
      if ∃ e ∈ l.notices, e.kind = .test
      then l.notices.map fun e => if e.kind = .test
        then { e with argument := code, rounds := 0, replaced := e.inFlight || e.replaced } else e
      else l.notices ++ [⟨.test, code, 0, false, false⟩] } := by
  have harg : testStartArgument c = code := by rw [testStartArgument, hcode, BitVec.ofNat_toNat, BitVec.setWidth_eq]
  rw [startPosts, if_pos ⟨TestCode.marksSample_iff.2 (hcode ▸ hc), rfl⟩, harg]
  refine congrArg (fun q => { l with notices := q }) (postNotice_eq (fun e he => ?_) l.notices)
  rw [NoticeEntry.repost_eq (he ▸ nofun), if_neg (he ▸ nofun)]

/-- Settles O48: the cases of R164 in order, and the start block by block. -/
theorem startTestStartsOrRefuses : Obligations.StartTestStartsOrRefuses := by
  intro code s htxn refuse
  rw [exec_startTest htxn]
  refine ⟨fun hcode => ?_, fun c hcode => ?_⟩
  · rw [State.takeStartTest_of_none (TestCode.ofByte_eq_none hcode)]
    rfl
  rw [State.takeStartTest_of_code hcode, ← Option.not_isSome_iff_eq_none]
  refine ⟨fun hbusy => ?_, fun hfree hstate => ?_, fun hfree hlock hjoin => ?_⟩
  · rw [if_pos (Option.isSome_iff_ne_none.2 hbusy)]
    rfl
  · rw [if_neg hfree, if_pos (State.testRefused_iff.2 (hcode ▸ hstate))]
    rfl
  · rw [if_neg hfree, if_neg (mt State.testRefused_iff.1 (hcode ▸ not_or.2 ⟨hlock, hjoin⟩)), State.startTest_eq]
    refine ⟨_, rfl, rfl, rfl, rfl, fun hactive hc => ?_, fun hquiet => ?_, rfl, rfl, rfl, rfl, rfl, rfl, rfl⟩
    · rw [State.answer_line, hactive]
      exact posted_startPosts s.line hcode hc
    · have hnone : startPosts s.member.selfState c = [] := if_neg fun ⟨hmarks, hactive⟩ =>
        hquiet.elim (· hactive) fun h => absurd (TestCode.marksSample_iff.1 hmarks) (by omega)
      rw [State.answer_line, hnone]
      rfl

theorem State.answer_ne {st : Status} {b : Byte} (h : st.byte ≠ b) (s : State) : (s.answer st []).port.response ≠ [b] :=
  fun heq => h (List.cons.inj heq).1

/-- Settles O49: CLEAR_RESULT, and START_TEST beside it. -/
theorem clearResultEmptiesRecord : Obligations.ClearResultEmptiesRecord := by
  intro s htxn
  have htakes := s.takes_of_command htxn .clearResult
  refine ⟨fun hbusy => ⟨?_, fun code hpos hmax => ?_⟩, fun hfree => ⟨?_, fun code => ⟨_, exec_startTest (.inl htxn) code, ?_⟩⟩⟩
  · exact congrArg Host.Outcome.next ((if_pos htakes).trans (if_pos (Option.isSome_iff_ne_none.2 hbusy)))
  · obtain ⟨c, hc⟩ := TestCode.exists_code hpos hmax
    exact ((startTestStartsOrRefuses code s (.inl htxn)).2 c hc).1 hbusy
  · exact congrArg Host.Outcome.next ((if_pos htakes).trans (if_neg (by simp [hfree])))
  · cases hcode : TestCode.ofByte code with
    | none =>
      rw [State.takeStartTest_of_none hcode]
      exact State.answer_ne (by decide) s
    | some c =>
      simp only [State.takeStartTest, hcode, hfree, Option.isSome_none, Bool.false_eq_true, if_false]
      split
      · exact State.answer_ne (by decide) s
      · exact State.answer_ne (by decide) _

end Sys2Proof.Machine
end

section
/-! SUPPORT. WITHDRAW and REJOIN (R96, R98), and what an entry to JOINING does to every block (R92). -/

namespace Sys2Proof.Machine

/-! ### The abort at an entry to JOINING (R170) -/

/-- The abort that reaches INJECT and MONITOR alone, block by block. -/
theorem State.abortTest_state (s : State) : (s.abortTest .state).tests = (match s.tests.running with
      | some r => if r.code.marksSample then ⟨none, some ⟨r.code, .aborted .state, some s.timer.epoch⟩⟩ else s.tests
      | none => s.tests) ∧
    (s.abortTest .state).sensor = { s.sensor with forced := if s.tests.runs .monitor then 0 else s.sensor.forced } ∧
    (s.abortTest .state).emulator = s.emulator ∧ (s.abortTest .state).engine = s.engine := by
  rcases s.abortTest_cases .state with ⟨hnone, heq⟩ | ⟨r, hr, hmarks, heq⟩ <;> rw [heq]
  · refine ⟨?_, ?_, rfl, rfl⟩
    · cases hr : s.tests.running with
      | none => rfl
      | some r =>
        have hnot : r.code.marksSample = false := hnone r hr
        simp [hnot]
    · have hmonitor : s.tests.runs .monitor = false := by
        cases hr : s.tests.running with
        | none => exact SelfTestUnit.runs_none hr _
        | some r =>
          rw [Bool.eq_false_iff, Ne, SelfTestUnit.runs_iff hr]
          intro hc
          simpa [AbortReason.reaches, TestCode.marksSample, hc] using hnone r hr
      simp [hmonitor]
  · have hmarks : r.code.marksSample = true := hmarks
    refine ⟨?_, ?_, ?_, ?_⟩
    · simp only [State.finishTest_tests, hr, hmarks, if_true]
    · have hruns : s.tests.runs .monitor = decide (r.code = .monitor) := by
        rw [Bool.eq_iff_iff, SelfTestUnit.runs_iff hr, decide_eq_true_iff]
      rw [State.finishTest_sensor, TestCode.endSensor, hruns]
      by_cases hc : r.code = .monitor <;> simp [hc]
    · rw [State.finishTest_emulator, TestCode.endEmulator, if_neg]
      rintro hc
      simp [TestCode.marksSample, hc] at hmarks
    · cases hc : r.code with
      | inject | monitor => rfl
      | vote | pulse => simp [TestCode.marksSample, hc] at hmarks

/-- An entry to JOINING at the blocks other than the Membership Unit and the Epoch Timer (R92, R124, R170). -/
theorem State.enterJoining_blocks (s : State) :
    s.enterJoining.line = (if ∃ o ∈ s.timer.origin, s.deadlineFrom o ≤ s.clock
      then s.line.drive false s.clock else s.line) ∧
    s.enterJoining.sensor = { s.sensor with
      excitation := s.timer.origin
      conv := .acquire
      acqCount := 0
      window := []
      forced := if s.tests.runs .monitor then 0 else s.sensor.forced } ∧
    s.enterJoining.tests = (s.abortTest .state).tests ∧ s.enterJoining.emulator = s.emulator ∧
    s.enterJoining.engine = s.engine := by
  rw [State.enterJoining_eq]
  obtain ⟨htests, hsensor, hemulator, hengine⟩ := s.asJoining.realign.abortTest_state
  refine ⟨?_, ?_, ?_, ?_, ?_⟩
  · rw [State.armDeadline_line, State.deadlineFrom_of_strapped (s := s)
      (by simp only [State.abortTest_strapped, State.realign_strapped]; rfl), State.abortTest_timer,
      State.abortTest_clock, State.abortTest_line]
    rfl
  · rw [State.armDeadline_sensor, hsensor]
    rfl
  · rw [State.armDeadline_tests, htests, s.abortTest_state.1]
    rfl
  · rw [State.armDeadline_emulator, hemulator]
    rfl
  · rw [State.armDeadline_engine, hengine]
    rfl

theorem TestCode.marksSample_cases {c : TestCode} : c.marksSample = true ↔ c = .inject ∨ c = .monitor := by
  cases c <;> decide

/-- The records of an entry to JOINING. -/
theorem State.joiningEvents_eq (s : State) : s.joiningEvents = evStationState s.timer.epoch .joining ::
    match s.tests.running with
    | some r => if r.code = .inject ∨ r.code = .monitor then [evTestDone s.timer.epoch r.code (.aborted .state)] else []
    | none => [] := by
  unfold State.joiningEvents State.abortEvents
  cases s.tests.running with
  | none => rfl
  | some r => exact congrArg _ (if_congr TestCode.marksSample_cases rfl rfl)

theorem State.joiningEvents_length (s : State) : s.joiningEvents.length ≤ 2 := by
  rw [State.joiningEvents_eq]
  split
  · split <;> simp
  · simp

/-- The LEAVE that WITHDRAW posts (R96, R105). -/
theorem posted_leave (q : List NoticeEntry) : postNotice q .leave 0 =
    if ∃ e ∈ q, e.kind = .leave
    then q.map fun e => if e.kind = .leave
      then { e with argument := 0, rounds := 0, replaced := e.inFlight || e.replaced } else e
    else q ++ [⟨.leave, 0, 0, false, false⟩] :=
  postNotice_eq (fun e he => by rw [NoticeEntry.repost_eq (he ▸ nofun), if_neg (he ▸ nofun)]) q

/-- An entry to LEAVING at the blocks it changes (R12, R96). -/
theorem State.enterLeaving_blocks (s : State) :
    s.enterLeaving.member = { s.member with selfState := .leaving, ownBound := false, ownRefused := false } ∧
    s.enterLeaving.line = { s.line with notices := postNotice s.line.notices .leave 0 } ∧
    s.enterLeaving.engine =
      { s.engine with rows := (unbindRows s.timer.epoch s.engine.rows s.member.ownStation).1 } := by
  unfold State.enterLeaving
  exact ⟨State.emitTogether_member .., State.emitTogether_line .., State.emitTogether_engine ..⟩

/-- The records of an entry to LEAVING, in either order of their blocks (R145). -/
theorem State.enterLeaving_events {s : State} (hroom : s.port.events.length ≤ 20) (hone : boundOnce s.engine.rows) :
    ∃ new, s.enterLeaving.port.events = s.port.events ++ new ∧ new.Perm (evStationState s.timer.epoch .leaving ::
      (unbindRows s.timer.epoch s.engine.rows s.member.ownStation).2) := by
  have hle := unbindRows_events_le s.timer.epoch s.member.ownStation hone
  obtain ⟨new, hnew, hperm, -⟩ := State.emitTogether_events
    (({ s.unbindOwn with member := { s.unbindOwn.member with selfState := .leaving } } : State).post .leave 0)
    [[evStationState s.timer.epoch .leaving], s.unbindOwnEvents] (by
      simp only [List.flatten_cons, List.flatten_nil, List.append_nil, List.length_append, List.length_singleton]
      show s.port.events.length + (1 + (unbindRows s.timer.epoch s.engine.rows s.member.ownStation).2.length) ≤ 32
      omega)
  exact ⟨new, hnew, by simpa [State.unbindOwnEvents] using hperm⟩

theorem State.deadlineFrom_eq (s : State) (o : Instant) :
    s.deadlineFrom o = o + s.plan.period + 8 * s.member.ownStation.toNat := rfl

/-- What an entry to JOINING arms, and the drive it begins (R47, R48). -/
theorem State.enterJoining_arms (s : State) :
    (∀ o ∈ s.timer.origin,
      s.enterJoining.timer = { s.timer with
        deadline := some (o + s.plan.period + 8 * s.member.ownStation.toNat) } ∧
      (o + s.plan.period + 8 * s.member.ownStation.toNat ≤ s.clock →
        ((∀ cold since, s.line.markDrive ≠ .driving cold since) →
          s.enterJoining.line = { s.line with markDrive := .driving false s.clock }) ∧
        ((∃ cold since, s.line.markDrive = .driving cold since) → s.enterJoining.line = s.line)) ∧
      (s.clock < o + s.plan.period + 8 * s.member.ownStation.toNat → s.enterJoining.line = s.line)) ∧
    (s.timer.origin = none → s.enterJoining.timer = s.timer ∧ s.enterJoining.line = s.line) := by
  obtain ⟨hline, -⟩ := s.enterJoining_blocks
  refine ⟨fun o ho => ?_, fun hnone => ⟨?_, ?_⟩⟩
  · rw [Option.mem_def] at ho
    have hpast : (∃ o ∈ s.timer.origin, s.deadlineFrom o ≤ s.clock) ↔
        o + s.plan.period + 8 * s.member.ownStation.toNat ≤ s.clock := by simp [ho, State.deadlineFrom_eq]
    refine ⟨?_, fun hdue => ⟨fun hidle => ?_, fun hdriving => ?_⟩, fun hahead => ?_⟩
    · rw [State.enterJoining_timer, State.armed, ho]
      rfl
    · rw [hline, if_pos (hpast.2 hdue), LineController.drive_of_not hidle]
    · rw [hline, if_pos (hpast.2 hdue), LineController.drive_of_driving hdriving]
    · rw [hline, if_neg (mt hpast.1 hahead.not_ge)]
  · rw [State.enterJoining_timer, State.armed, hnone]
    rfl
  · rw [hline, if_neg (by simp [hnone])]

/-- An abort that reaches INJECT and MONITOR at the Self-Test Unit, by the test in progress. -/
theorem State.abortTest_state_tests {s : State} {r : TestRun} (hr : r ∈ s.tests.running) :
    ((r.code = .inject ∨ r.code = .monitor) →
      (s.abortTest .state).tests = ⟨none, some ⟨r.code, .aborted .state, some s.timer.epoch⟩⟩) ∧
    ((r.code = .vote ∨ r.code = .pulse) → (s.abortTest .state).tests = s.tests) := by
  rw [Option.mem_def] at hr
  rw [s.abortTest_state.1, hr]
  refine ⟨fun hc => if_pos (TestCode.marksSample_cases.2 hc), fun hc => if_neg ?_⟩
  rw [TestCode.marksSample_cases]
  rcases hc with hc | hc <;> simp [hc]

/-- Settles O47: WITHDRAW and REJOIN, taken and refused. -/
theorem stationLeavesAndRejoins : Obligations.StationLeavesAndRejoins := by
  intro s htxn
  have hwithdraw := s.takes_of_command htxn .withdraw
  have hrejoin := s.takes_of_command htxn .rejoin
  refine ⟨fun hself => ⟨s.enterLeaving.answer .ok [], congrArg Host.Outcome.next
      ((if_pos hwithdraw).trans (if_pos (s.member.selfState.member_iff.2 hself))), ?_⟩,
    fun hjoin hactive => congrArg Host.Outcome.next ((if_pos hwithdraw).trans (if_neg ?_)),
    fun hself => ⟨(s.enterJoining.emit s.joiningEvents).answer .ok [], congrArg Host.Outcome.next
      ((if_pos hrejoin).trans (if_pos hself)), ?_⟩,
    fun hself => congrArg Host.Outcome.next ((if_pos hrejoin).trans (if_neg hself))⟩
  · obtain ⟨hmember, hline, hengine⟩ := s.enterLeaving_blocks
    obtain ⟨-, htimer, hsensor, -, hstore, -, htests, -⟩ := s.enterLeaving_kept
    simp only [State.answer_member, State.answer_line, State.answer_timer, State.answer_tests, State.answer_store,
      State.answer_sensor, State.answer_engine, hmember, hline, hengine, htimer, hsensor, hstore, htests, posted_leave]
    exact ⟨trivial, trivial, trivial, trivial, trivial, trivial, trivial, trivial,
      unbindRows_not_has _ _ _, rfl, State.enterLeaving_events⟩
  · rw [SelfState.member_iff]
    exact fun h => h.elim hjoin hactive
  · obtain ⟨-, hsensor, htests, -, hengine⟩ := s.enterJoining_blocks
    obtain ⟨harmed, hidle⟩ := s.enterJoining_arms
    have hlength := s.joiningEvents_length
    simp only [State.answer_member, State.answer_line, State.answer_timer, State.answer_tests, State.answer_store,
      State.answer_sensor, State.answer_engine, State.emit_member, State.emit_line, State.emit_timer, State.emit_tests,
      State.emit_store, State.emit_sensor, State.emit_engine, State.enterJoining_member, State.enterJoining_store,
      hsensor, htests, hengine, hself, reduceCtorEq, if_false]
    refine ⟨trivial, trivial, trivial, trivial, trivial, trivial, harmed, hidle,
      fun r hr => (State.abortTest_state_tests hr).1, fun r hr => (State.abortTest_state_tests hr).2, trivial, trivial,
      rfl, fun hroom => ?_⟩
    rw [State.answer_port, State.emit_port, State.enterJoining_port, LocalPort.appendAll_of_room _ _ (by omega)]
    exact congrArg (s.port.events ++ ·) s.joiningEvents_eq

end Sys2Proof.Machine
end

section
/-! SUPPORT. The blocks that the local port reads out (Tables 11-6, 11-7 and 11-9), byte by byte, and the commands that read them. -/

namespace Sys2Proof.Machine

/-! ### Codes fit their fields (Table 11-1) -/

theorem selfStateCode_lt (x : SelfState) : x.code < 8 := by cases x <;> decide

theorem rowStateCode_lt (x : RowState) : x.code < 8 := by cases x <;> decide

theorem converterCode_lt (x : ConverterState) : x.code < 4 := by cases x <;> decide

theorem emulatorCode_lt (x : EmulatorState) : x.code < 4 := by cases x <;> decide

theorem peerStateCode_lt (x : PeerState) : x.code < 4 := by cases x <;> decide

theorem frameStateCode_lt (x : FrameState) : x.code < 2 := by cases x <;> decide

theorem noticeKindCode_lt (x : NoticeKind) : x.code < 4 := by cases x <;> decide

theorem testCode_lt (x : TestCode) : x.code < 8 := by cases x <;> decide

theorem testOutcomeCode_lt (x : TestOutcome) : x.code < 4 := by cases x <;> simp [TestOutcome.code]

/-! ### Pages (Table 11-7) -/

/-- Ten bits in two bytes. -/
theorem bytes16_held (f : FaultSet) : bytes16 (f.setWidth 16) = [0#6 ++ f.extractLsb' 8 2, f.extractLsb' 0 8] := by
  have hf := f.isLt
  rw [bytes16_eq]
  refine congrArg₂ (fun x y => [x, y]) (BitVec.eq_of_toNat_eq ?_) (BitVec.eq_of_toNat_eq ?_)
  · simp only [append_toNat, BitVec.extractLsb'_toNat, BitVec.toNat_setWidth, BitVec.toNat_ofNat, Nat.shiftRight_eq_div_pow]
    omega
  · simp only [BitVec.extractLsb'_toNat, BitVec.toNat_setWidth, Nat.shiftRight_eq_div_pow]
    omega

theorem PageRow.bytes_eq (r : PageRow) : r.bytes =
    [0#3 ++ BitVec.ofBool r.present ++ BitVec.ofBool r.stale ++ BitVec.ofNat 3 r.state.code, BitVec.ofNat 8 r.holdAge]
      ++ [r.angle.extractLsb' 8 8, r.angle.extractLsb' 0 8] ++ [r.velocity.extractLsb' 8 8, r.velocity.extractLsb' 0 8]
      ++ [r.usedSet.extractLsb' 8 8, r.usedSet.extractLsb' 0 8] ++ [r.epoch.extractLsb' 8 8, r.epoch.extractLsb' 0 8] := by
  have hfirst : BitVec.ofNat 8 (r.state.code + 8 * r.stale.toNat + 16 * r.present.toNat) =
      0#3 ++ BitVec.ofBool r.present ++ BitVec.ofBool r.stale ++ BitVec.ofNat 3 r.state.code := by
    have hcode := rowStateCode_lt r.state
    have hstale := r.stale.toNat_le
    have hpresent := r.present.toNat_le
    refine BitVec.eq_of_toNat_eq ?_
    simp only [append_toNat, BitVec.toNat_ofNat, BitVec.toNat_ofBool]
    omega
  simp only [PageRow.bytes, bytes16_eq, hfirst]

theorem Page.bytes_eq (p : Page) : p.bytes =
    [BitVec.ofBool p.valid ++ BitVec.ofBool p.selfMarked ++ 0#3 ++ BitVec.ofNat 3 p.selfState.code]
      ++ [p.epoch.extractLsb' 8 8, p.epoch.extractLsb' 0 8]
      ++ [p.presentSet.extractLsb' 8 8, p.presentSet.extractLsb' 0 8] ++ [0#3 ++ p.live]
      ++ [0#6 ++ p.held.extractLsb' 8 2, p.held.extractLsb' 0 8] ++ p.rows.flatMap PageRow.bytes := by
  have hfirst : BitVec.ofNat 8 (128 * p.valid.toNat + 64 * p.selfMarked.toNat + p.selfState.code) =
      BitVec.ofBool p.valid ++ BitVec.ofBool p.selfMarked ++ 0#3 ++ BitVec.ofNat 3 p.selfState.code := by
    have hcode := selfStateCode_lt p.selfState
    have hvalid := p.valid.toNat_le
    have hmarked := p.selfMarked.toNat_le
    refine BitVec.eq_of_toNat_eq ?_
    simp only [append_toNat, BitVec.toNat_ofNat, BitVec.toNat_ofBool]
    omega
  simp only [Page.bytes, bytes16_eq p.epoch, bytes16_eq p.presentSet, bytes16_held, hfirst, setWidth_eq_append p.live 3]

/-- A page of eight rows has 88 bytes. -/
theorem Page.bytes_length {p : Page} (h : p.rows.length = 8) : p.bytes.length = 88 := by
  have hrow (r : PageRow) : r.bytes.length = 10 := by rw [PageRow.bytes_eq]; rfl
  rw [Page.bytes_eq]
  simp [List.length_flatMap, hrow, h]

/-! ### Peer entries (Table 11-9) -/

/-- Flags, code and outcome in one byte. -/
theorem flagsByte_eq (f : SampleFlags) (code : BitVec 3) (outcome : BitVec 2) :
    BitVec.ofNat 8 (f.code + (8 * code.toNat + 64 * outcome.toNat)) = outcome ++ code ++ BitVec.ofBool f.sensorFault
      ++ BitVec.ofBool f.settling ++ BitVec.ofBool f.test := by
  have h1 := f.test.toNat_le
  have h2 := f.settling.toNat_le
  have h3 := f.sensorFault.toNat_le
  have h4 := code.isLt
  have h5 := outcome.isLt
  refine BitVec.eq_of_toNat_eq ?_
  simp only [append_toNat, BitVec.toNat_ofNat, BitVec.toNat_ofBool, SampleFlags.code]
  omega

/-- The outcome that a test report shows: 0 in phase START (log 21). -/
def reportOutcome : Option TestReport → BitVec 2
  | some r => if r.ended then r.outcome else 0
  | none => 0

theorem reportBits_eq (r : Option TestReport) :
    reportBits r = 8 * ((r.map TestReport.code).getD 0).toNat + 64 * (reportOutcome r).toNat := by
  cases r with
  | none => rfl
  | some r => cases hended : r.ended <;> simp [reportBits, reportOutcome, hended]

theorem PeerEntry.bytes_eq (p : PeerEntry) : p.bytes =
    [BitVec.ofNat 1 p.frameState.code ++ BitVec.ofBool p.refused ++ BitVec.ofBool p.bound ++ p.axis
        ++ BitVec.ofNat 2 p.state.code] ++ [p.heard.extractLsb' 8 8, p.heard.extractLsb' 0 8]
      ++ [p.lastEpoch.extractLsb' 0 8, 0#2 ++ p.reported,
        reportOutcome p.testReport ++ (p.testReport.map TestReport.code).getD 0 ++ BitVec.ofBool p.flags.sensorFault
          ++ BitVec.ofBool p.flags.settling ++ BitVec.ofBool p.flags.test] := by
  have hfirst : BitVec.ofNat 8 (p.state.code + 4 * p.axis.toNat + 32 * p.bound.toNat + 64 * p.refused.toNat
      + 128 * p.frameState.code) = BitVec.ofNat 1 p.frameState.code ++ BitVec.ofBool p.refused ++ BitVec.ofBool p.bound
        ++ p.axis ++ BitVec.ofNat 2 p.state.code := by
    have hcode := peerStateCode_lt p.state
    have hframe := frameStateCode_lt p.frameState
    have hbound := p.bound.toNat_le
    have hrefused := p.refused.toNat_le
    have haxis := p.axis.isLt
    refine BitVec.eq_of_toNat_eq ?_
    simp only [append_toNat, BitVec.toNat_ofNat, BitVec.toNat_ofBool]
    omega
  simp only [PeerEntry.bytes, bytes16_eq, hfirst, epochLow, setWidth_eq_append p.reported 2, reportBits_eq, flagsByte_eq,
    BitVec.setWidth_eq_extractLsb' (x := p.lastEpoch) (w := 8) (by decide)]

/-- Blocks of one length, one after another: each block is found at its place. -/
theorem extract_flatMap {α β : Type} {f : α → List β} {n : Nat} (hf : ∀ a, (f a).length = n) (xs : List α) {k : Nat}
    {x : α} (h : xs[k]? = some x) : (xs.flatMap f).extract (n * k) (n * k + n) = f x := by
  induction xs generalizing k with
  | nil => simp at h
  | cons a xs ih =>
    cases k with
    | zero =>
      obtain rfl : a = x := by simpa using h
      simp [← hf a]
    | succ k =>
      have hdrop : n * (k + 1) = (f a).length + n * k := by rw [hf, Nat.mul_succ, Nat.add_comm]
      rw [← ih (k := k) (by simpa using h), List.flatMap_cons, hdrop]
      simp [List.drop_append, List.drop_eq_nil_of_le]

/-! ### The status block (Table 11-6) -/

theorem runBytes_of_none {t : SelfTestUnit} (h : t.running = none) : t.runBytes = [0, 0] := by
  simp only [SelfTestUnit.runBytes, h]

theorem runBytes_of_run {t : SelfTestUnit} {r : TestRun} (h : r ∈ t.running) (hstep : r.step < 16) :
    t.runBytes = [BitVec.ofNat 8 r.code.code,
      if r.code = .vote then 0 else BitVec.ofNat 4 r.remaining ++ BitVec.ofNat 4 r.step] := by
  rw [Option.mem_def] at h
  have hbyte : BitVec.ofNat 8 (r.step + 16 * r.remaining) = BitVec.ofNat 4 r.remaining ++ BitVec.ofNat 4 r.step := by
    refine BitVec.eq_of_toNat_eq ?_
    simp only [append_toNat, BitVec.toNat_ofNat]
    omega
  simp only [SelfTestUnit.runBytes, h, hbyte]

theorem runBytes_length (t : SelfTestUnit) : t.runBytes.length = 2 := by
  unfold SelfTestUnit.runBytes
  split <;> rfl

theorem resultBytes_of_none {t : SelfTestUnit} (h : t.result = none) : t.resultBytes = [0, 0, 0, 0] := by
  simp only [SelfTestUnit.resultBytes, h]

theorem resultBytes_of_result {t : SelfTestUnit} {r : TestResult} (h : r ∈ t.result) : t.resultBytes =
    [0#2 ++ BitVec.ofNat 3 r.outcome.code ++ BitVec.ofNat 3 r.code.code, BitVec.ofNat 8 r.outcome.detail]
      ++ [(r.endingEpoch.getD 0).extractLsb' 8 8, (r.endingEpoch.getD 0).extractLsb' 0 8] := by
  rw [Option.mem_def] at h
  have hbyte : BitVec.ofNat 8 (r.code.code + 8 * r.outcome.code) =
      0#2 ++ BitVec.ofNat 3 r.outcome.code ++ BitVec.ofNat 3 r.code.code := by
    have hcode := testCode_lt r.code
    have houtcome := testOutcomeCode_lt r.outcome
    refine BitVec.eq_of_toNat_eq ?_
    simp only [append_toNat, BitVec.toNat_ofNat]
    omega
  simp only [SelfTestUnit.resultBytes, h, hbyte, bytes16_eq]

theorem resultBytes_length (t : SelfTestUnit) : t.resultBytes.length = 4 := by
  unfold SelfTestUnit.resultBytes
  split <;> rfl

theorem pinBytes_of_none {st : SnapshotStore} (h : st.pin = none) : st.pinBytes = [0, 0, 0] := by
  simp only [SnapshotStore.pinBytes, h]

theorem pinBytes_of_held {st : SnapshotStore} {p : PageNumber} (h : st.pin = some ⟨p, .held⟩) : st.pinBytes =
    [1#1 ++ 0#5 ++ BitVec.ofNat 2 p.val] ++ [(st.page p).epoch.extractLsb' 8 8, (st.page p).epoch.extractLsb' 0 8] := by
  have hbyte : BitVec.ofNat 8 (128 + p.val) = 1#1 ++ 0#5 ++ BitVec.ofNat 2 p.val := by
    clear h
    revert p
    decide
  simp only [SnapshotStore.pinBytes, h, hbyte, bytes16_eq, List.singleton_append]

theorem pinBytes_length (st : SnapshotStore) : st.pinBytes.length = 3 := by
  unfold SnapshotStore.pinBytes
  split <;> rfl

/-- The kind of the i-th pending notice in two bits, 0 where there is none. -/
def pendingKind (q : List NoticeEntry) (i : Nat) : BitVec 2 := ((q[i]?).map fun e => BitVec.ofNat 2 e.kind.code).getD 0

theorem pendingKindsByte_eq (q : List NoticeEntry) :
    pendingKindsByte q = pendingKind q 0 ++ pendingKind q 1 ++ pendingKind q 2 ++ pendingKind q 3 := by
  have hplace (i w : Nat) : ((q[i]?).map fun e => e.kind.code * w).getD 0 = (pendingKind q i).toNat * w := by
    unfold pendingKind
    cases q[i]? with
    | none => simp
    | some e => simp [Nat.mod_eq_of_lt (noticeKindCode_lt e.kind)]
  refine BitVec.eq_of_toNat_eq ?_
  simp only [pendingKindsByte, hplace, append_toNat, BitVec.toNat_ofNat]
  have h0 := (pendingKind q 0).isLt
  have h1 := (pendingKind q 1).isLt
  have h2 := (pendingKind q 2).isLt
  have h3 := (pendingKind q 3).isLt
  omega

/-- Bytes 0 to 2: self state, straps and the states of Converter and emulator. -/
theorem statusHead_eq (self : SelfState) (conv : ConverterState) (marked : Bool) (own : Station) (plan : PlanCode)
    (axis : Axis) (emulator : EmulatorState) :
    BitVec.ofNat 8 (self.code + 16 * conv.code + 128 * marked.toNat) =
      BitVec.ofBool marked ++ 0#1 ++ BitVec.ofNat 2 conv.code ++ 0#1 ++ BitVec.ofNat 3 self.code ∧
    BitVec.ofNat 8 (own.toNat + 16 * plan.toNat) = 0#1 ++ plan ++ own ∧
    BitVec.ofNat 8 (axis.toNat + 16 * emulator.code) = 0#2 ++ BitVec.ofNat 2 emulator.code ++ 0#1 ++ axis := by
  have hself := selfStateCode_lt self
  have hconv := converterCode_lt conv
  have hmarked := marked.toNat_le
  have hown := own.isLt
  have hplan := plan.isLt
  have haxis := axis.isLt
  have hemulator := emulatorCode_lt emulator
  refine ⟨BitVec.eq_of_toNat_eq ?_, BitVec.eq_of_toNat_eq ?_, BitVec.eq_of_toNat_eq ?_⟩ <;>
    simp only [append_toNat, BitVec.toNat_ofNat, BitVec.toNat_ofBool] <;> omega

/-- The flags of the latched sample. -/
theorem sampleFlagsByte_eq (settling fault : Bool) : BitVec.ofNat 8 (2 * settling.toNat + 4 * fault.toNat) =
    0#5 ++ BitVec.ofBool fault ++ BitVec.ofBool settling ++ 0#1 := by
  revert settling fault
  decide

theorem State.statusBlock_length (s : State) : s.statusBlock.length = 31 := by
  simp [State.statusBlock, bytes16, runBytes_length, resultBytes_length, pinBytes_length]

/-! ### The commands that read -/

/-- After an answer SDO shows filler. -/
theorem State.answer_sdo (s : State) (st : Status) (data : List Byte) {i : Nat}
    (hi : (s.answer st data).port.response.length ≤ i) : (s.answer st data).port.sdo i = some 0xFF :=
  LocalPort.sdo_past_answer (.inl rfl) hi

theorem State.pinFront_answers (s : State) : ∃ x st data, s.pinFront = State.answer x st data := by
  unfold State.pinFront
  split
  · exact ⟨_, _, _, rfl⟩
  · exact ⟨_, _, _, rfl⟩

theorem State.readPage_answers (s : State) : ∃ x st data, s.readPage = State.answer x st data := by
  unfold State.readPage
  split
  · exact ⟨_, _, _, rfl⟩
  · exact ⟨_, _, _, rfl⟩
  · exact ⟨_, _, _, rfl⟩

/-- In COMMAND each of the four is taken. -/
theorem exec_reads_of_command {s : State} (h : s.port.txn = .command) :
    exec .readStatus s = .next (s.answer .ok s.statusBlock) ∧
    exec .readPeers s = .next (s.answer .ok (s.member.peers.flatMap PeerEntry.bytes)) ∧
    exec .readPage s = .next s.readPage ∧ exec .pin s = .next s.pinFront :=
  ⟨congrArg Host.Outcome.next (if_pos (s.takes_of_command h .readStatus)),
    congrArg Host.Outcome.next (if_pos (s.takes_of_command h .readPeers)),
    congrArg Host.Outcome.next (if_pos (s.takes_of_command h .readPage)),
    congrArg Host.Outcome.next (if_pos (s.takes_of_command h .pin))⟩

/-- A page of a store with sound roles has eight rows. -/
theorem State.rolesSound.page_rows {s : State} (h : s.rolesSound) (p : PageNumber) : (s.store.page p).rows.length = 8 := by
  obtain ⟨hpages, hrows, -⟩ := h
  have hp : p.val < s.store.pages.length := by rw [hpages]; exact p.isLt
  exact hrows _ (by rw [SnapshotStore.page, List.getD_eq_getElem _ _ hp]; exact List.getElem_mem hp)

/-- Settles O43: the blocks byte by byte, and the pin. -/
theorem readsAndPinAnswer : Obligations.ReadsAndPinAnswer := by
  intro s htxn hroles hpeers two heldBytes rowBytes pageBytes reportCode reportOutcome peerBytes kind
  obtain ⟨hstatus, hpeer, hpage, hpin⟩ := exec_reads_of_command htxn
  have hrow : PageRow.bytes = rowBytes := funext PageRow.bytes_eq
  have hpageBytes (p : Page) : pageBytes p = p.bytes := by rw [Page.bytes_eq, hrow]
  have hlength (p : PageNumber) : (pageBytes (s.store.page p)).length = 88 := by
    rw [hpageBytes, Page.bytes_length (hroles.page_rows p)]
  rw [hstatus, hpeer, hpage, hpin]
  refine ⟨⟨s.statusBlock, s.tests.runBytes, s.tests.resultBytes, s.store.pinBytes,
      BitVec.ofNat 8 (s.port.events.length + 128 * s.port.overflow.toNat), s.statusBlock_length, rfl, ?_, runBytes_of_none,
      fun r hr hstep _ => runBytes_of_run hr hstep, resultBytes_of_none, fun r hr => ?_, overflowByte_eq _, pinBytes_of_none,
      fun p => pinBytes_of_held⟩,
    ⟨s.member.peers.flatMap PeerEntry.bytes, ?_, fun k => ?_, rfl⟩, fun p hp => ⟨hlength _, ?_⟩,
    fun p hnone hp => ⟨hlength _, ?_⟩, fun hnone hp => ?_, fun hp => ?_, fun p hp => ?_, ?_⟩
  · obtain ⟨h0, h1, h2⟩ := statusHead_eq s.member.selfState s.sensor.conv s.timer.selfMarked s.member.ownStation
      s.timer.plan s.member.ownAxis s.emulator.state
    simp only [State.statusBlock, bytes16_held]
    simp only [bytes16_eq, h0, h1, h2, pendingKindsByte_eq, sampleFlagsByte_eq, setWidth_eq_append s.sensor.live 3]
    simp only [List.append_assoc]
    rfl
  · rw [resultBytes_of_result hr]
    cases r.outcome with
    | aborted why => cases why <;> rfl
    | running | pass | fail => rfl
  · have hentry (p : PeerEntry) : p.bytes.length = 6 := by rw [PeerEntry.bytes_eq]; rfl
    simp [List.length_flatMap, hentry, hpeers]
  · have hk : s.member.peers[k.toNat]? = some (s.member.peer k) := by
      have hlt : k.toNat < s.member.peers.length := by rw [hpeers]; exact k.isLt
      rw [MembershipUnit.peer, List.getD_eq_getElem _ _ hlt, List.getElem?_eq_getElem hlt]
    rw [extract_flatMap (fun p => by rw [PeerEntry.bytes_eq]; rfl) s.member.peers hk, PeerEntry.bytes_eq]
    rfl
  · rw [hpageBytes, State.readPage, hp]
    rfl
  · rw [hpageBytes, State.readPage, hnone, hp]
    rfl
  · rw [State.readPage, hnone, hp]
    rfl
  · rw [State.pinFront, hp]
    rfl
  · simp only [State.pinFront, hp, bytes16_eq]
    rfl
  · have hanswers {t : State} (ht : ∃ x st data, t = State.answer x st data) (i : Nat)
        (hi : t.port.response.length ≤ i) : t.port.sdo i = some 0xFF := by
      obtain ⟨x, st, data, rfl⟩ := ht
      exact x.answer_sdo st data hi
    intro c hc
    simp only [List.mem_cons, List.not_mem_nil, or_false] at hc
    rcases hc with rfl | rfl | rfl | rfl
    · exact ⟨_, hstatus, hanswers ⟨_, _, _, rfl⟩⟩
    · exact ⟨_, hpeer, hanswers ⟨_, _, _, rfl⟩⟩
    · exact ⟨_, hpage, hanswers s.readPage_answers⟩
    · exact ⟨_, hpin, hanswers s.pinFront_answers⟩

end Sys2Proof.Machine
end

section
/-! SUPPORT. The rounds of the open window at the own Notice Queue: the entry a round offers and what its end leaves (R106 to
R109). -/

namespace Sys2Proof.Machine

/-! ### The offer (R106) -/

/-- The pending notice of the lowest kind code is the one offered. -/
theorem offered_of_lowest {q : List NoticeEntry} {e : NoticeEntry} (he : e ∈ q)
    (hlow : ∀ e' ∈ q, e.kind.code ≤ e'.kind.code ∧ (e'.kind = e.kind → e' = e)) : offered q = some e := by
  have hnone {k : NoticeKind} (hk : k.code < e.kind.code) : (q.find? fun e' => e'.kind == k) = none := by
    refine List.find?_eq_none.2 fun e' he' hkind => ?_
    obtain rfl : e'.kind = k := by simpa using hkind
    exact absurd (hlow e' he').1 (Nat.not_le.2 hk)
  have hself : (q.find? fun e' => e'.kind == e.kind) = some e := by
    cases hfind : q.find? fun e' => e'.kind == e.kind with
    | none => exact absurd (List.find?_eq_none.1 hfind e he) (by simp)
    | some e' =>
      have hkind : e'.kind = e.kind := by simpa using List.find?_some hfind
      rw [(hlow e' (List.mem_of_find?_eq_some hfind)).2 hkind]
  unfold offered
  cases hkind : e.kind with
  | leave => rw [hkind] at hself; simp [hself]
  | fault => rw [hkind] at hself hnone; simp [hself, hnone (k := .leave) (by decide)]
  | test =>
    rw [hkind] at hself hnone
    simp [hself, hnone (k := .leave) (by decide), hnone (k := .fault) (by decide)]
  | user =>
    rw [hkind] at hself hnone
    simp [hself, hnone (k := .leave) (by decide), hnone (k := .fault) (by decide), hnone (k := .test) (by decide)]

theorem SelfState.sends_iff (st : SelfState) : st.sends = true ↔ st = .joining ∨ st = .active ∨ st = .leaving := by
  cases st <;> simp [SelfState.sends]

theorem State.roundDue_of {s : State} {j : RoundNumber} (hdrawn : s.drawn = true) (hopen : s.timer.roundOpen = false)
    (htime : ∃ o ∈ s.timer.origin, o + (16 + 144 * s.plan.n + 32 + 64 * j.toNat : Nat) ≤ s.clock)
    (hpos : s.timer.position = .gap ∨ ∃ i : RoundNumber, s.timer.position = .round i ∧ i.toNat < j.toNat) :
    s.roundDue j = true := by
  have hreached : s.reached (roundTime s.plan.n j.toNat) = true := (s.reached_iff _).2 htime
  have hrank : SchedulePos.gap.rank ≤ s.timer.position.rank ∧ s.timer.position.rank < (SchedulePos.round j).rank := by
    rcases hpos with hpos | ⟨i, hpos, hij⟩ <;> rw [hpos] <;> simp only [SchedulePos.rank] <;> omega
  simp [State.roundDue, hdrawn, hreached, hopen, hrank]

/-- Settles O38: the round is due, and its begin offers the lowest kind or nothing. -/
theorem roundOffersLowestKind : Obligations.RoundOffersLowestKind := by
  intro j s hseen hself hopen htime hpos
  have hexec : exec (.roundBegin j) s = .next (s.roundBegin j) :=
    congrArg Host.Outcome.next (if_pos (State.roundDue_of (State.drawn_of hseen hself) hopen htime hpos))
  rw [hexec]
  refine ⟨fun e he hlow hsends => ?_, fun hnone => ?_⟩
  · simp only [State.roundBegin, offered_of_lowest he hlow, if_pos ((SelfState.sends_iff _).2 hsends)]
    rfl
  · have hoffer : offered s.line.notices = none ∨ ¬s.member.selfState.sends = true := by
      rcases hnone with h | h | h
      · exact .inl (by rw [h]; rfl)
      · exact .inr (by rw [h]; decide)
      · exact .inr (by rw [h]; decide)
    unfold State.roundBegin
    rcases hoffer with h | h
    · simp only [h]
    · simp only [if_neg h]
      split <;> rfl

/-! ### The queue at a round's end (R108, R109) -/

/-- What a round's end makes of an entry before the drops. -/
def roundEntry (sends completed : Bool) (e : NoticeEntry) : Option NoticeEntry :=
  if completed && e.inFlight then (if e.replaced then some ⟨e.kind, e.argument, 0, false, false⟩ else none)
  else some ⟨e.kind, e.argument, if sends then e.rounds + 1 else e.rounds, false, false⟩

theorem roundQueue_eq (sends completed : Bool) {q : List NoticeEntry}
    (h : ∀ e ∈ q, e.replaced = true → e.inFlight = true) :
    roundQueue sends completed q = q.filterMap (roundEntry sends completed) := by
  have haged : (if sends then q.map (NoticeEntry.age completed) else q) =
      q.map fun e => if sends then e.age completed else e := by cases sends <;> simp
  simp only [roundQueue, haged]
  cases completed with
  | true =>
    rw [if_pos rfl, takeCompleted, List.filterMap_map]
    refine List.filterMap_congr fun e he => ?_
    obtain ⟨kind, arg, rounds, inFlight, replaced⟩ := e
    cases inFlight with
    | true => cases sends <;> simp [roundEntry, NoticeEntry.age]
    | false =>
      have hreplaced : replaced = false := by simpa using h _ he
      subst hreplaced
      cases sends <;> simp [roundEntry, NoticeEntry.age]
  | false =>
    rw [if_neg (by decide), dropFlight, List.map_map, ← List.filterMap_eq_map]
    refine List.filterMap_congr fun e _ => ?_
    cases sends <;> simp [roundEntry, NoticeEntry.age]

/-- What stays of an entry at a round's end. -/
def keptEntry (sends completed : Bool) (e : NoticeEntry) : Option NoticeEntry :=
  (roundEntry sends completed e).filter fun e => decide (e.rounds < 32)

theorem dropExpired_roundQueue (sends completed : Bool) {q : List NoticeEntry}
    (h : ∀ e ∈ q, e.replaced = true → e.inFlight = true) :
    dropExpired (roundQueue sends completed q) = q.filterMap (keptEntry sends completed) := by
  rw [roundQueue_eq sends completed h, dropExpired, List.filter_filterMap]
  rfl

theorem roundEntry_kind {sends completed : Bool} {e e' : NoticeEntry} (h : roundEntry sends completed e = some e') :
    e'.kind = e.kind := by
  unfold roundEntry at h
  split at h
  · split at h
    · rw [← Option.some.inj h]
    · cases h
  · rw [← Option.some.inj h]

/-- An entry reaches 32 rounds where the station sends, the frame was not completed and it had waited 31 (R109). -/
theorem roundEntry_late {sends completed : Bool} {e : NoticeEntry} (hr : e.rounds < 32) :
    (∃ e', roundEntry sends completed e = some e' ∧ 32 ≤ e'.rounds) ↔
      sends = true ∧ ¬(completed = true ∧ e.inFlight = true) ∧ e.rounds = 31 := by
  unfold roundEntry
  by_cases hdone : completed = true ∧ e.inFlight = true
  · cases hrep : e.replaced <;> simp [hdone]
  · rw [if_neg (by simpa using hdone)]
    cases sends
    · simp only [Bool.false_eq_true, if_false, Option.some.injEq, exists_eq_left', false_and, iff_false]
      omega
    · simp only [if_true, Option.some.injEq, exists_eq_left', hdone, not_false_eq_true, true_and]
      omega

/-- Whether an entry of a kind expires at a round's end. -/
def expiresAt (sends completed : Bool) (q : List NoticeEntry) (k : NoticeKind) : Prop :=
  sends = true ∧ ∃ e ∈ q, e.kind = k ∧ ¬(completed = true ∧ e.inFlight = true) ∧ e.rounds = 31

theorem expiresAt_iff {sends completed : Bool} {q : List NoticeEntry} (hr : ∀ e ∈ q, e.rounds < 32) (k : NoticeKind) :
    (∃ e' ∈ q.filterMap (roundEntry sends completed), e'.kind = k ∧ 32 ≤ e'.rounds) ↔
      expiresAt sends completed q k := by
  constructor
  · rintro ⟨e', he', hk, hlate⟩
    obtain ⟨e, he, hentry⟩ := List.mem_filterMap.1 he'
    obtain ⟨hs, hdone, h31⟩ := (roundEntry_late (hr e he)).1 ⟨e', hentry, hlate⟩
    exact ⟨hs, e, he, (roundEntry_kind hentry).symm.trans hk, hdone, h31⟩
  · rintro ⟨hs, e, he, hk, hdone, h31⟩
    obtain ⟨e', hentry, hlate⟩ := (roundEntry_late (hr e he)).2 ⟨hs, hdone, h31⟩
    exact ⟨e', List.mem_filterMap.2 ⟨e, he, hentry⟩, (roundEntry_kind hentry).trans hk, hlate⟩

open Classical in
/-- The kinds that expire, in ascending code. -/
theorem expiredKinds_eq {sends completed : Bool} {q : List NoticeEntry} (hr : ∀ e ∈ q, e.rounds < 32) :
    expiredKinds (q.filterMap (roundEntry sends completed)) =
      [NoticeKind.leave, .fault, .test, .user].filter fun k => decide (expiresAt sends completed q k) := by
  refine List.filter_congr fun k _ => ?_
  rw [Bool.eq_iff_iff, decide_eq_true_iff, ← expiresAt_iff hr, List.any_eq_true]
  simp only [Bool.and_eq_true, beq_iff_eq, decide_eq_true_eq]
  rfl

theorem flatMap_filter {α β : Type} (p : α → Bool) (f : α → List β) (xs : List α) :
    (xs.filter p).flatMap f = xs.flatMap fun x => if p x then f x else [] := by
  induction xs with
  | nil => rfl
  | cons x xs ih => by_cases hx : p x = true <;> simp [hx, ih]

/-- What stays of an entry of fewer than 32 rounds. -/
theorem keptEntry_eq {sends completed : Bool} {e : NoticeEntry} (hr : e.rounds < 32) : keptEntry sends completed e =
    if completed = true ∧ e.inFlight = true
    then (if e.replaced = true then some ⟨e.kind, e.argument, 0, false, false⟩ else none)
    else if ¬sends = true then some ⟨e.kind, e.argument, e.rounds, false, false⟩
    else if e.rounds < 31 then some ⟨e.kind, e.argument, e.rounds + 1, false, false⟩ else none := by
  unfold keptEntry roundEntry
  by_cases hdone : completed = true ∧ e.inFlight = true
  · cases hrep : e.replaced <;> simp [hdone]
  · rw [if_neg (by simpa using hdone), if_neg hdone]
    cases sends
    · simp [hr]
    · by_cases h31 : e.rounds < 31
      · simp [h31, Option.filter]
      · simp only [h31, not_true_eq_false, if_false, if_true, Option.filter, decide_eq_true_eq]
        exact if_neg (by omega)

theorem keptEntry_kind {sends completed : Bool} {e e' : NoticeEntry} (h : keptEntry sends completed e = some e') :
    e'.kind = e.kind :=
  roundEntry_kind (Option.filter_eq_some_iff.1 h).1

/-- No entry stays of one whose frame was completed unreplaced, or that expires. -/
theorem keptEntry_eq_none {completed : Bool} {e : NoticeEntry} (hr : e.rounds < 32) :
    keptEntry true completed e = none ↔ (completed = true ∧ e.inFlight = true) ∧ e.replaced = false ∨
      ¬(completed = true ∧ e.inFlight = true) ∧ e.rounds = 31 := by
  rw [keptEntry_eq hr]
  by_cases hdone : completed = true ∧ e.inFlight = true
  · cases hrep : e.replaced <;> simp [hdone]
  · rw [if_neg hdone, if_neg (by simp)]
    by_cases h31 : e.rounds < 31
    · rw [if_pos h31]
      simp only [hdone, false_and, false_or, reduceCtorEq, not_false_eq_true, true_and, false_iff]
      omega
    · rw [if_neg h31]
      simp only [hdone, false_and, false_or, not_false_eq_true, true_and, true_iff]
      omega

/-- Two entries of a sound queue of one kind are one. -/
theorem State.noticesSound.eq_of_kind {s : State} (h : s.noticesSound) {e e' : NoticeEntry}
    (he : e ∈ s.line.notices) (he' : e' ∈ s.line.notices) (hk : e.kind = e'.kind) : e = e' := by
  obtain ⟨-, hnodup, -⟩ := h
  exact List.inj_on_of_nodup_map hnodup he he' hk

theorem leaveTaken_iff {q : List NoticeEntry} :
    leaveTaken q = true ↔ ∃ e ∈ q, e.kind = .leave ∧ e.inFlight = true ∧ e.replaced = false := by
  simp only [leaveTaken, List.any_eq_true, Bool.and_eq_true, Bool.not_eq_true', beq_iff_eq]
  exact exists_congr fun e => and_congr_right fun _ => by tauto

/-- Whether a round's end finds the own notice frame completed. -/
def State.roundCompleted (s : State) : Bool := s.line.noticeSend == .completed

/-- Whether it takes a sent LEAVE that completes LEAVING (R108). -/
def State.leaveSent (s : State) : Bool :=
  s.roundCompleted && leaveTaken s.line.notices && s.member.selfState == .leaving

open Classical in
/-- Whether a LEAVE expires at it that completes LEAVING (R109). -/
noncomputable def State.leaveExpires (s : State) : Bool :=
  s.member.selfState == .leaving && !s.leaveSent &&
    decide (expiresAt s.member.selfState.sends s.roundCompleted s.line.notices .leave)

open Classical in
/-- The records of an expiry of a kind, where it expires. -/
noncomputable def State.expiryBlock (s : State) (k : NoticeKind) : List EventRecord :=
  if expiresAt s.member.selfState.sends s.roundCompleted s.line.notices k
  then evNoticeExpired s.timer.epoch k ::
    (if s.leaveExpires && k == .leave then [evStationState s.timer.epoch .withdrawn] else [])
  else []

/-- The records of a round's end (R108, R109). -/
noncomputable def State.roundRecords (s : State) : List EventRecord :=
  (if s.leaveSent then [evStationState s.timer.epoch .withdrawn] else []) ++ s.expiryBlock .leave ++
    s.expiryBlock .fault ++ s.expiryBlock .test ++ s.expiryBlock .user

/-- The state at a round's end but for the self state and the records. -/
def State.roundEnded (s : State) (j : RoundNumber) : State :=
  { s with
    timer.position := if j = 3 then .idle else .round j
    timer.roundOpen := false
    line.receiver := .off
    line.noticeSend := .idle
    line.notices := s.line.notices.filterMap (keptEntry s.member.selfState.sends s.roundCompleted) }

/-- A round's end in one expression, for a sound queue. -/
theorem State.roundEnd_eq {s : State} (hsound : s.noticesSound)
    (hflight : ∀ e ∈ s.line.notices, e.replaced = true → e.inFlight = true) (j : RoundNumber) :
    s.roundEnd j = ((s.roundEnded j).withdrawnIf (s.leaveSent || s.leaveExpires)).emit s.roundRecords := by
  classical
  obtain ⟨-, -, hrounds⟩ := hsound
  have hexpired := expiredKinds_eq (sends := s.member.selfState.sends) (completed := s.roundCompleted) hrounds
  rw [← roundQueue_eq _ _ hflight] at hexpired
  have hleave : (expiredKinds (roundQueue s.member.selfState.sends s.roundCompleted s.line.notices)).contains .leave =
      decide (expiresAt s.member.selfState.sends s.roundCompleted s.line.notices .leave) := by
    rw [hexpired, Bool.eq_iff_iff, List.contains_iff_mem, List.mem_filter]
    simp
  have hrecords : (if s.leaveSent then [evStationState s.timer.epoch .withdrawn] else []) ++
      expiryEvents s.timer.epoch s.leaveExpires
        (expiredKinds (roundQueue s.member.selfState.sends s.roundCompleted s.line.notices)) = s.roundRecords := by
    rw [hexpired, expiryEvents, flatMap_filter]
    simp only [List.flatMap_cons, List.flatMap_nil, List.append_nil, decide_eq_true_eq, State.roundRecords,
      State.expiryBlock, List.append_assoc]
  rw [← hrecords, State.roundEnded, ← dropExpired_roundQueue _ _ hflight, State.leaveExpires, ← hleave]
  rfl

/-- A round's end takes a LEAVING station to WITHDRAWN exactly where its LEAVE leaves the queue. -/
theorem State.roundEnd_withdraws {s : State} (hsound : s.noticesSound) (j : RoundNumber) :
    (s.leaveSent || s.leaveExpires) = true ↔ s.member.selfState = .leaving ∧
      (∃ e ∈ s.line.notices, e.kind = .leave) ∧ ∀ e' ∈ (s.roundEnded j).line.notices, e'.kind ≠ .leave := by
  have hgone : ((∃ e ∈ s.line.notices, e.kind = .leave) ∧ ∀ e' ∈ (s.roundEnded j).line.notices, e'.kind ≠ .leave) ↔
      ∃ e ∈ s.line.notices, e.kind = .leave ∧ keptEntry s.member.selfState.sends s.roundCompleted e = none := by
    constructor
    · rintro ⟨⟨e, he, hk⟩, hnone⟩
      refine ⟨e, he, hk, Option.eq_none_iff_forall_ne_some.2 fun e' hkept => ?_⟩
      exact hnone e' (List.mem_filterMap.2 ⟨e, he, hkept⟩) ((keptEntry_kind hkept).trans hk)
    · rintro ⟨e, he, hk, hnone⟩
      refine ⟨⟨e, he, hk⟩, fun e' he' hk' => ?_⟩
      obtain ⟨e1, he1, hkept⟩ := List.mem_filterMap.1 he'
      obtain rfl := hsound.eq_of_kind he1 he (((keptEntry_kind hkept).symm.trans hk').trans hk.symm)
      rw [hnone] at hkept
      cases hkept
  rw [hgone]
  obtain ⟨-, -, hrounds⟩ := hsound
  simp only [State.leaveExpires, State.leaveSent, Bool.or_eq_true, Bool.and_eq_true, Bool.not_eq_true', beq_iff_eq,
    decide_eq_true_iff, leaveTaken_iff]
  constructor
  · rintro (⟨⟨hdone, e, he, hk, hfly, hrep⟩, hself⟩ | ⟨⟨hself, -⟩, -, e, he, hk, hdone, h31⟩)
    · exact ⟨hself, e, he, hk, by rw [hself]; exact (keptEntry_eq_none (hrounds e he)).2 (.inl ⟨⟨hdone, hfly⟩, hrep⟩)⟩
    · exact ⟨hself, e, he, hk, by rw [hself]; exact (keptEntry_eq_none (hrounds e he)).2 (.inr ⟨hdone, h31⟩)⟩
  · rintro ⟨hself, e, he, hk, hnone⟩
    by_cases hsent : s.leaveSent = true
    · simp only [State.leaveSent, Bool.and_eq_true, leaveTaken_iff, beq_iff_eq] at hsent
      exact .inl hsent
    · rw [hself] at hnone
      rcases (keptEntry_eq_none (hrounds e he)).1 hnone with ⟨⟨hdone, hfly⟩, hrep⟩ | ⟨hdone, h31⟩
      · exact .inl ⟨⟨hdone, e, he, hk, hfly, hrep⟩, hself⟩
      · refine .inr ⟨⟨hself, ?_⟩, by rw [hself]; rfl, e, he, hk, hdone, h31⟩
        simpa [State.leaveSent] using hsent

/-- An expiry of a kind other than LEAVE has its one record. -/
theorem State.expiryBlock_of_ne {s : State} {k : NoticeKind} (hk : k ≠ .leave)
    (h : expiresAt s.member.selfState.sends s.roundCompleted s.line.notices k) :
    s.expiryBlock k = [evNoticeExpired s.timer.epoch k] := by
  classical
  rw [State.expiryBlock, if_pos h, if_neg (by simp [hk])]

theorem State.expiryBlock_of_not {s : State} {k : NoticeKind}
    (h : ¬expiresAt s.member.selfState.sends s.roundCompleted s.line.notices k) : s.expiryBlock k = [] := by
  classical
  exact if_neg h

theorem State.roundRecords_length (s : State) : s.roundRecords.length ≤ 8 := by
  have hleave : (s.expiryBlock .leave).length ≤ 2 := by
    unfold State.expiryBlock
    split
    · split <;> simp
    · simp
  have hother {k : NoticeKind} (hk : k ≠ .leave) : (s.expiryBlock k).length ≤ 1 := by
    by_cases h : expiresAt s.member.selfState.sends s.roundCompleted s.line.notices k
    · rw [State.expiryBlock_of_ne hk h, List.length_singleton]
    · rw [State.expiryBlock_of_not h]
      exact Nat.zero_le _
  have h2 := hother (k := .fault) nofun
  have h3 := hother (k := .test) nofun
  have h4 := hother (k := .user) nofun
  have h0 : (if s.leaveSent then [evStationState s.timer.epoch .withdrawn] else []).length ≤ 1 := by split <;> simp
  simp only [State.roundRecords, List.length_append]
  omega

theorem State.leaveSent_iff {s : State} : s.leaveSent = true ↔ (∃ e ∈ s.line.notices, e.kind = .leave ∧
    (s.line.noticeSend = .completed ∧ e.inFlight = true) ∧ e.replaced = false) ∧ s.member.selfState = .leaving := by
  simp only [State.leaveSent, State.roundCompleted, Bool.and_eq_true, beq_iff_eq, leaveTaken_iff]
  constructor
  · rintro ⟨⟨hdone, e, he, hk, hfly, hrep⟩, hself⟩
    exact ⟨⟨e, he, hk, ⟨hdone, hfly⟩, hrep⟩, hself⟩
  · rintro ⟨⟨e, he, hk, ⟨hdone, hfly⟩, hrep⟩, hself⟩
    exact ⟨⟨hdone, e, he, hk, hfly, hrep⟩, hself⟩

/-- The expiry of a LEAVE has STATION_STATE directly after it where it completes LEAVING (log 16). -/
theorem State.expiryBlock_leave {s : State} (hsound : s.noticesSound)
    (h : expiresAt s.member.selfState.sends s.roundCompleted s.line.notices .leave) :
    s.expiryBlock .leave = evNoticeExpired s.timer.epoch .leave ::
      if s.member.selfState = .leaving then [evStationState s.timer.epoch .withdrawn] else [] := by
  classical
  rw [State.expiryBlock, if_pos h]
  have hsent : s.leaveSent = false := by
    rw [Bool.eq_false_iff, Ne, State.leaveSent_iff]
    rintro ⟨⟨e, he, hk, ⟨hdone, hfly⟩, -⟩, -⟩
    obtain ⟨-, e', he', hk', hnot, -⟩ := h
    obtain rfl := hsound.eq_of_kind he he' (hk.trans hk'.symm)
    exact hnot ⟨beq_iff_eq.2 hdone, hfly⟩
  refine congrArg _ (if_congr ?_ rfl rfl)
  simp [State.leaveExpires, hsent, h]

/-- Settles O39: the queue entry by entry, and the records kind by kind. -/
theorem roundEndAgesQueue : Obligations.RoundEndAgesQueue := by
  intro j s hseen hself hopen hpos htime hsound hroom hflight sends
  have hexec : exec (.roundEnd j) s = .next (s.roundEnd j) := congrArg Host.Outcome.next
    (if_pos ⟨State.drawn_of hseen hself, hopen, hpos, (s.reached_iff _).2 htime⟩)
  have hlength := s.roundRecords_length
  have hwithdraws := s.roundEnd_withdraws hsound j
  have hsends : s.member.selfState.sends = true ↔ sends := s.member.selfState.sends_iff
  have hdone : s.roundCompleted = true ↔ s.line.noticeSend = .completed := beq_iff_eq
  rw [State.roundEnd_eq hsound hflight] at hexec
  have hblocks : ∀ b, ((s.roundEnded j).withdrawnIf b).line = (s.roundEnded j).line ∧
      ((s.roundEnded j).withdrawnIf b).port = s.port ∧
      ((s.roundEnded j).withdrawnIf b).timer = { (s.roundEnded j).timer with
        deadline := if b then none else s.timer.deadline } ∧
      ((s.roundEnded j).withdrawnIf b).member =
        (if b then { s.member with selfState := .withdrawn } else s.member) := by
    intro b
    cases b <;> exact ⟨rfl, rfl, rfl, rfl⟩
  have hkept : ∀ b, ((s.roundEnded j).withdrawnIf b).engine = s.engine ∧
      ((s.roundEnded j).withdrawnIf b).store = s.store ∧ ((s.roundEnded j).withdrawnIf b).sensor = s.sensor ∧
      ((s.roundEnded j).withdrawnIf b).faults = s.faults ∧ ((s.roundEnded j).withdrawnIf b).tests = s.tests ∧
      ((s.roundEnded j).withdrawnIf b).emulator = s.emulator := by
    intro b
    cases b <;> exact ⟨rfl, rfl, rfl, rfl, rfl, rfl⟩
  obtain ⟨hline, hport, htimer, hmember⟩ := hblocks (s.leaveSent || s.leaveExpires)
  obtain ⟨hengine, hstore, hsensor, hfaults, htests, hemulator⟩ := hkept (s.leaveSent || s.leaveExpires)
  refine ⟨_, s.roundRecords, hexec, ?_, ?_, ?_, ?_, ?_, ?_, ?_, ?_, ?_, hengine, hstore, hsensor, hfaults, ?_, htests,
    hemulator⟩
  all_goals simp only [State.emit_port, State.emit_timer, State.emit_line, State.emit_member, hline, hport, htimer, hmember]
  · rw [LocalPort.appendAll_of_room _ _ (by omega)]
  · rfl
  · rfl
  · rfl
  · rfl
  · refine List.filterMap_congr fun e he => ?_
    obtain ⟨-, -, hrounds⟩ := hsound
    rw [keptEntry_eq (hrounds e he)]
    exact if_congr (and_congr_left' hdone) rfl (if_congr (not_congr hsends) rfl rfl)
  · have hexpires (k : NoticeKind) : (sends ∧ ∃ e ∈ s.line.notices, e.kind = k ∧
        ¬(s.line.noticeSend = .completed ∧ e.inFlight = true) ∧ e.rounds = 31) ↔
          expiresAt s.member.selfState.sends s.roundCompleted s.line.notices k := by
      rw [expiresAt, hsends, hdone]
    refine ⟨_, _, _, _, _, rfl, fun ⟨e, he, hk, hd, hrep⟩ => ?_, fun hall => if_neg fun hsent => ?_,
      fun h => State.expiryBlock_leave hsound ((hexpires _).1 h), fun h => State.expiryBlock_of_not (mt (hexpires _).2 h),
      fun h => State.expiryBlock_of_ne nofun ((hexpires _).1 h), fun h => State.expiryBlock_of_not (mt (hexpires _).2 h),
      fun h => State.expiryBlock_of_ne nofun ((hexpires _).1 h), fun h => State.expiryBlock_of_not (mt (hexpires _).2 h),
      fun h => State.expiryBlock_of_ne nofun ((hexpires _).1 h), fun h => State.expiryBlock_of_not (mt (hexpires _).2 h)⟩
    · refine if_congr ?_ rfl rfl
      rw [State.leaveSent_iff]
      exact and_iff_right ⟨e, he, hk, hd, hrep⟩
    · obtain ⟨⟨e, he, hk, hd, hrep⟩, -⟩ := State.leaveSent_iff.1 hsent
      rw [hall e he hk hd] at hrep
      cases hrep
  · intro h
    rw [hwithdraws.2 h]
    exact ⟨rfl, rfl⟩
  · intro h
    rw [Bool.eq_false_iff.2 (mt hwithdraws.1 h)]
    exact ⟨rfl, rfl⟩
  · rfl

end Sys2Proof.Machine
end

section
/-! SUPPORT. RESTART at every block, and its records with room in the queue and without (R99, R152). -/

namespace Sys2Proof.Machine

/-! ### The records -/

/-- Appends change the events and OVERFLOW alone. -/
theorem LocalPort.appendAll_rest (p : LocalPort) (es : List EventRecord) : p.appendAll es =
    { p with events := (p.appendAll es).events, overflow := (p.appendAll es).overflow } := by
  conv_rhs => rw [← p.appendAll_txn es, ← p.appendAll_csnLow es, ← p.appendAll_response es, ← p.appendAll_toDeliver es]

/-- A full queue takes no record (R147). -/
theorem LocalPort.appendAll_of_full (p : LocalPort) (e : EventRecord) (es : List EventRecord)
    (h : 32 ≤ p.events.length) : p.appendAll (e :: es) = { p with overflow := true } := by
  rw [appendAll_cons, append_of_full p e h]
  induction es with
  | nil => rfl
  | cons e' es ih => 
    rw [appendAll_cons, append_of_full _ e' (by exact h)]
    exact ih

/-- The self state that RESTART enters (R79, R99). -/
def State.restartSelf (s : State) : SelfState := if s.outOfRange then .lockout else .listen

/-- The records of RESTART after STATION_STATE, block by block (R145, R152). -/
def State.restartBlocks (s : State) : List (List EventRecord) :=
  [s.abortEvents .restart, emulatorEvents s.timer.epoch s.emulator.state .frozen,
    if s.outOfRange then faultEvents s.faults s.timer.epoch .strapRange else []]

theorem State.restart_port (s : State) : ∃ later, later.Perm s.restartBlocks.flatten ∧
    s.restart.port = s.port.appendAll (evStationState s.timer.epoch s.restartSelf :: later) := by
  refine ⟨(mergeBlocks (s.abortTest .restart).freeCount s.restartBlocks).1, mergeBlocks_perm _ _, ?_⟩
  unfold State.restart
  rw [State.emitTogether_port, State.emit_port, LocalPort.appendAll_cons]
  simp [State.restartBlocks, State.restartSelf]

/-- The records after STATION_STATE by kind: at most one of each. -/
theorem State.restartBlocks_kinds (s : State) : s.restartBlocks.flatten.length ≤ 3 ∧
    ∀ later : List EventRecord, later.Perm s.restartBlocks.flatten →
      (∀ e ∈ later, e.kind ∈ [EventKind.testDone, .emulator, .faultHeld]) ∧
      later.filter (fun e => e.kind = .testDone) =
        (s.tests.running.map fun r => evTestDone s.timer.epoch r.code (.aborted .restart)).toList ∧
      later.filter (fun e => e.kind = .emulator) =
        (if s.emulator.state = .frozen then [] else [evEmulator s.timer.epoch .frozen]) ∧
      later.filter (fun e => e.kind = .faultHeld) =
        (if s.plan.n ≤ s.member.ownStation.toNat ∧ s.faults.held.getLsbD 9 = false
          then [evFaultHeld s.timer.epoch .strapRange] else []) := by
  have hstrap : (if s.outOfRange then faultEvents s.faults s.timer.epoch .strapRange else []) =
      if s.plan.n ≤ s.member.ownStation.toNat ∧ s.faults.held.getLsbD 9 = false
      then [evFaultHeld s.timer.epoch .strapRange] else [] := by
    have hholds : holds s.faults.held .strapRange = s.faults.held.getLsbD 9 := rfl
    rw [State.outOfRange, faultEvents, hholds]
    cases s.faults.held.getLsbD 9 <;> simp
  have hflat : s.restartBlocks.flatten =
      (s.tests.running.map fun r => evTestDone s.timer.epoch r.code (.aborted .restart)).toList ++
        ((if s.emulator.state = .frozen then [] else [evEmulator s.timer.epoch .frozen]) ++
          if s.plan.n ≤ s.member.ownStation.toNat ∧ s.faults.held.getLsbD 9 = false
          then [evFaultHeld s.timer.epoch .strapRange] else []) := by
    rw [State.restartBlocks, hstrap, State.abortEvents_all s AbortReason.restart_reaches]
    simp [emulatorEvents]
  rw [hflat]
  set done : List EventRecord :=
    (s.tests.running.map fun r => evTestDone s.timer.epoch r.code (.aborted .restart)).toList with hdonedef
  set frozen : List EventRecord := if s.emulator.state = .frozen then [] else [evEmulator s.timer.epoch .frozen]
    with hfrozendef
  set strap : List EventRecord := if s.plan.n ≤ s.member.ownStation.toNat ∧ s.faults.held.getLsbD 9 = false
    then [evFaultHeld s.timer.epoch .strapRange] else [] with hstrapdef
  have hdone : done.length ≤ 1 ∧ ∀ e ∈ done, e.kind = .testDone := by
    rw [hdonedef]
    cases s.tests.running <;> simp [evTestDone]
  have hfrozen : frozen.length ≤ 1 ∧ ∀ e ∈ frozen, e.kind = .emulator := by
    rw [hfrozendef]
    split <;> simp [evEmulator]
  have hfault : strap.length ≤ 1 ∧ ∀ e ∈ strap, e.kind = .faultHeld := by
    rw [hstrapdef]
    split <;> simp [evFaultHeld]
  refine ⟨by simp only [List.length_append]; omega, fun later hperm => ⟨fun e he => ?_, ?_⟩⟩
  · rw [hperm.mem_iff, List.mem_append, List.mem_append] at he
    rcases he with he | he | he
    · simp [hdone.2 e he]
    · simp [hfrozen.2 e he]
    · simp [hfault.2 e he]
  · have hfilter (k : EventKind) : (done ++ (frozen ++ strap)).filter (fun e => e.kind = k) =
        (if .testDone = k then done else []) ++ ((if .emulator = k then frozen else []) ++
          if .faultHeld = k then strap else []) := by
      rw [List.filter_append, List.filter_append, filter_kind_eq hdone.2, filter_kind_eq hfrozen.2,
        filter_kind_eq hfault.2]
    refine ⟨?_, ?_, ?_⟩
    all_goals rw [filter_of_perm hperm _ (by rw [hfilter]; simp [hdone.1, hfrozen.1, hfault.1]), hfilter]
    all_goals simp

/-! ### The blocks -/

/-- RESTART at the Membership Unit and the Fault Register. -/
theorem State.restart_member_faults (s : State) : s.restart.member = { s.member with
      selfState := s.restartSelf
      listenRun := 0
      mismatchRun := 0
      joinRun := 0
      joinEpochs := 0
      unheardRun := 0
      ownBound := false
      ownRefused := false
      peers := List.replicate 16 PeerEntry.cleared } ∧
    s.restart.faults = if s.outOfRange then s.faults.set .strapRange else s.faults := by
  unfold State.restart
  rw [State.emitTogether_member, State.emit_member, State.emitTogether_faults, State.emit_faults]
  exact ⟨rfl, rfl⟩

/-- RESTART at the emulator: FROZEN, with its outputs kept where they stand at their levels (R159, R161). -/
theorem PulseEmulator.restart_eq (e : PulseEmulator) :
    e.restart = { e with state := .frozen, emission := none, testHold := none, encz := false,
                         enca := e.restart.enca, encb := e.restart.encb } ∧
      ((e.testHold = none ∨ e.ok) → e.restart.enca = e.enca ∧ e.restart.encb = e.encb) := by
  unfold PulseEmulator.restart PulseEmulator.unhold
  cases hhold : e.testHold with
  | none => exact ⟨rfl, fun _ => ⟨rfl, rfl⟩⟩
  | some c =>
    refine ⟨rfl, fun h => ?_⟩
    rcases h with h | ⟨-, -, -, ha, hb, -⟩
    · cases h
    · exact ⟨ha.symm, hb.symm⟩

/-- Settles O9: RESTART block by block, and its records. -/
theorem restartClearsAndKeeps : Obligations.RestartClearsAndKeeps := by
  intro s htxn
  refine ⟨s.restart.answer .ok [], congrArg Host.Outcome.next (if_pos (s.takes_of_command htxn .restart)), ?_⟩
  obtain ⟨hclock, hline, htimer, hengine, hstore, hemulator, -⟩ := s.restart_kept
  obtain ⟨hmember, hfaults⟩ := s.restart_member_faults
  obtain ⟨hsensor, htests⟩ := s.restart_sensor_tests
  obtain ⟨haborted, hforced, -, -⟩ := s.abortTest_all AbortReason.restart_reaches
  obtain ⟨hrestart, houtputs⟩ := s.emulator.restart_eq
  obtain ⟨later, hperm, hport⟩ := s.restart_port
  obtain ⟨hlength, hkinds⟩ := s.restartBlocks_kinds
  have hself : s.restartSelf = if s.plan.n ≤ s.member.ownStation.toNat then .lockout else .listen :=
    if_congr decide_eq_true_iff rfl rfl
  have hselfState : s.restart.member.selfState = s.restartSelf := by rw [hmember]
  have hlater := hperm.length_eq
  simp only [State.answer_timer, State.answer_line, State.answer_engine, State.answer_store, State.answer_member,
    State.answer_faults, State.answer_sensor, State.answer_emulator, State.answer_tests, State.answer_clock,
    hselfState]
  refine ⟨htimer, hline, hengine, hstore, by rw [hmember, hself], fun hin => ?_, fun hout => ?_, ?_, ?_, fun h => ?_, ?_,
    fun r hr => ?_, fun hnone => ?_, hclock, ?_, fun hroom => ?_, fun hroom => ?_, fun hfull => ?_⟩
  · rw [hfaults, if_neg (by simpa [State.outOfRange] using hin)]
  · rw [hfaults, if_pos (by simpa [State.outOfRange] using hout)]
    rfl
  · rw [hsensor, hforced]
  · rw [hemulator]
    exact hrestart
  · rw [hemulator]
    exact houtputs h
  · rw [htests, haborted, SelfTestUnit.aborted_running]
  · rw [htests, haborted, SelfTestUnit.aborted_result hr]
  · rw [htests, haborted, SelfTestUnit.aborted_of_none hnone]
  · rw [State.answer_port, hport, LocalPort.appendAll_rest]
    rfl
  · obtain ⟨rest, hrest⟩ := LocalPort.appendAll_prefix
      (s.port.append (evStationState s.timer.epoch s.restartSelf)) later
    refine ⟨rest, ?_⟩
    rw [State.answer_port, hport, LocalPort.appendAll_cons, ← hrest, LocalPort.append_of_room _ _ hroom,
      List.append_assoc, List.singleton_append]
  · have happended : s.restart.port = { s.port with
        events := s.port.events ++ evStationState s.timer.epoch s.restartSelf :: later } := by
      rw [hport, LocalPort.appendAll_of_room _ _ (by simp only [List.length_cons]; omega)]
    rw [State.answer_port, happended]
    exact ⟨rfl, later, rfl, hkinds later hperm⟩
  · rw [State.answer_port, hport, LocalPort.appendAll_of_full _ _ _ hfull]
    exact ⟨rfl, rfl⟩

end Sys2Proof.Machine
end

section
/-! SUPPORT. The timed outputs: one edge of an emission, and what a publication makes of the emulator (Table 9-3). -/

namespace Sys2Proof.Machine

/-! ### Counts per turn -/

theorem PulseEmulator.perTurn_cases (e : PulseEmulator) :
    e.perTurn = 1024 ∨ e.perTurn = 4096 ∨ e.perTurn = 8192 ∨ e.perTurn = 16384 := by
  have hall : ∀ res : BitVec 2, countsPerTurn res = 1024 ∨ countsPerTurn res = 4096 ∨ countsPerTurn res = 8192 ∨
      countsPerTurn res = 16384 := by decide
  exact hall e.res

/-- The target of an angle, written with the counts' width (R154). -/
theorem targetOf_eq (angle : Angle) (e : PulseEmulator) :
    targetOf angle e.perTurn = angle.toNat / (65536 / e.perTurn) := by
  unfold targetOf
  rcases e.perTurn_cases with h | h | h | h <;> rw [h] <;> omega

/-- The count difference leads to the target, by way of a turn where that is shorter. -/
theorem countDiff_cases (target counter n : Nat) : countDiff target counter n = target - counter ∨
    countDiff target counter n = target - counter - n ∨ countDiff target counter n = target - counter + n := by
  unfold countDiff
  dsimp only
  split_ifs <;> simp

/-- It lies within half a turn and leads from the counter to the target (R155). -/
theorem countDiff_spec {n target counter : Nat} (hn : n % 2 = 0) (ht : target < n) (hc : counter < n) :
    -(n / 2 : Int) ≤ countDiff target counter n ∧ countDiff target counter n < (n / 2 : Int) ∧
      ((counter : Int) + countDiff target counter n) % n = target % n := by
  refine ⟨?_, ?_, ?_⟩
  · unfold countDiff
    dsimp only
    split_ifs <;> omega
  · unfold countDiff
    dsimp only
    split_ifs <;> omega
  · rcases countDiff_cases target counter n with h | h | h <;> rw [h]
    · congr 1; omega
    · rw [show (counter : Int) + (target - counter - n) = target - n by omega, Int.sub_emod_right]
    · rw [show (counter : Int) + (target - counter + n) = target + n by omega, Int.add_emod_right]

theorem PulseEmulator.perTurn_even (e : PulseEmulator) : e.perTurn % 2 = 0 := by
  rcases e.perTurn_cases with h | h | h | h <;> rw [h]

/-! ### One edge (R157, R158) -/

/-- One count up or down, written with the turn's ends. -/
theorem countStep_eq {c n : Nat} (hc : c < n) (up : Bool) : countStep up c n =
    if up then (if c + 1 = n then 0 else c + 1) else (if c = 0 then n - 1 else c - 1) := by
  unfold countStep
  cases up
  · simp only [Bool.false_eq_true, if_false]
    split
    · next h => subst h; rw [Nat.zero_add, Nat.mod_eq_of_lt (by omega)]
    · rw [show c + n - 1 = c - 1 + n by omega, Nat.add_mod_right, Nat.mod_eq_of_lt (by omega)]
  · simp only [if_true]
    split
    · next h => rw [h, Nat.mod_self]
    · exact Nat.mod_eq_of_lt (by omega)

/-- One count changes exactly one of ENCA and ENCB (Table 9-4). -/
theorem quad_countStep (e : PulseEmulator) {c : Nat} (hc : c < e.perTurn) (up : Bool) :
    quadA (countStep up c e.perTurn) ≠ quadA c ↔ quadB (countStep up c e.perTurn) = quadB c := by
  have hstep : countStep up c e.perTurn % 4 = (c % 4 + if up then 1 else 3) % 4 := by
    rw [countStep_eq hc]
    rcases e.perTurn_cases with h | h | h | h <;> rw [h] at * <;> cases up <;> simp only [Bool.false_eq_true, if_false,
      if_true] <;> split <;> omega
  have hlt : c % 4 < 4 := Nat.mod_lt _ (by decide)
  simp only [quadA, quadB, hstep]
  generalize c % 4 = r at hlt
  interval_cases r <;> cases up <;> decide

theorem exec_emissionEdge_of_early {s : State} {em : Emission} (hem : s.emulator.emission = some em)
    (h : s.clock < em.nextEdge s.plan.period) : exec .emissionEdge s = .next s := by
  refine congrArg Host.Outcome.next ?_
  simp only [hem]
  exact if_neg (Int.not_le.2 h)

theorem exec_emissionEdge_of_due {s : State} {em : Emission} (hem : s.emulator.emission = some em)
    (h : em.nextEdge s.plan.period ≤ s.clock) :
    exec .emissionEdge s = .next { s with emulator := s.emulator.edge em } := by
  refine congrArg Host.Outcome.next ?_
  simp only [hem]
  exact if_pos h

/-- Settles O36: EPS falls, and an edge comes at its instant or moves nothing. -/
theorem outputsMoveByOneEdge : Obligations.OutputsMoveByOneEdge := by
  refine ⟨fun s => rfl, fun s hnone => ?_, fun s em hem hearly => exec_emissionEdge_of_early hem hearly,
    fun s em hsound hem hdue hstate => ⟨s.emulator.edge em, exec_emissionEdge_of_due hem hdue, rfl, rfl, rfl, ?_⟩⟩
  · refine congrArg Host.Outcome.next ?_
    simp only [hnone]
  · obtain ⟨hc, -, -, ha, hb, -⟩ : s.emulator.ok := hsound
    have hcounter : (s.emulator.edge em).counter = countStep em.up s.emulator.counter s.emulator.perTurn := rfl
    refine ⟨fun hup => ?_, fun hdown => ?_, ?_, ?_, fun hmore => ?_, fun hlast => ?_⟩
    · rw [hcounter, countStep_eq hc, if_pos hup]
    · rw [hcounter, countStep_eq hc, if_neg (by simp [hdown])]
    · rw [ha, hb]
      exact quad_countStep s.emulator hc em.up
    · show indexLevel s.emulator.state _ = true ↔ _
      rcases hstate with h | h <;> simp [indexLevel, h, PulseEmulator.edge, PulseEmulator.show]
    · exact if_neg (Nat.not_le.2 hmore)
    · exact if_pos hlast.ge

/-! ### A publication (Table 9-3) -/

theorem PageRow.cls_fresh_iff (r : PageRow) : r.cls = .fresh ↔ r.present = true ∧ r.stale = false ∧ r.holdAge = 0 := by
  unfold PageRow.cls
  cases r.present <;> cases r.stale <;> by_cases h : r.holdAge = 0 <;> simp [h]

theorem PageRow.cls_unavailable_iff (r : PageRow) : r.cls = .unavailable ↔ r.present = false ∨ r.stale = true := by
  unfold PageRow.cls
  cases r.present <;> cases r.stale <;> by_cases h : r.holdAge = 0 <;> simp [h]

/-- The emulator with its emission stopped, as a publication finds it (R156). -/
def PulseEmulator.stopped (e : PulseEmulator) : PulseEmulator := { e with emission := none }

theorem PulseEmulator.publish_of_free {e : PulseEmulator} (h : e.testHold = none) (row : PageRow) (now : Instant) :
    e.publish row now = e.stopped.takeRow row now := by
  simp [PulseEmulator.publish, PulseEmulator.stopped, h]

/-- In IDLE and FROZEN a row that is not fresh changes nothing. -/
theorem PulseEmulator.takeRow_of_waiting {e : PulseEmulator} {row : PageRow} (hstate : e.state = .idle ∨ e.state = .frozen)
    (hcls : row.cls ≠ .fresh) (now : Instant) : e.takeRow row now = e := by
  unfold PulseEmulator.takeRow
  rcases hstate with h | h <;> rw [h] <;> cases hc : row.cls <;> simp_all

/-- A row that the emulator follows takes it a step towards the target. -/
theorem PulseEmulator.takeRow_of_step {e : PulseEmulator} {row : PageRow}
    (h : (e.state = .follow ∨ e.state = .lagging) ∧ row.cls ≠ .unavailable ∨ e.state = .frozen ∧ row.cls = .fresh)
    (now : Instant) : e.takeRow row now =
      (e.stepBy (countDiff (targetOf row.angle e.perTurn) e.counter e.perTurn) now).show := by
  unfold PulseEmulator.takeRow
  rcases h with ⟨h | h, hcls⟩ | ⟨h, hcls⟩
  · rw [h]; cases hc : row.cls <;> simp_all
  · rw [h]; cases hc : row.cls <;> simp_all
  · rw [h, hcls]

/-- Settles O37: Table 9-3 by state and class. -/
theorem emulatorTakesPublication : Obligations.EmulatorTakesPublication := by
  intro e row now hcounter target t
  have htarget : target = targetOf row.angle e.perTurn := (targetOf_eq _ _).symm
  refine ⟨fun hhold => if_pos hhold, fun hfree => ⟨row.cls_fresh_iff, row.cls_unavailable_iff, ?_⟩⟩
  have ht : t = e.stopped.takeRow row now := PulseEmulator.publish_of_free hfree row now
  refine ⟨fun hstate hcls => ?_, fun hstate hcls => ?_, fun hstate hcls => ?_, fun hstate hcls => ?_, fun hfollows => ?_⟩
  · have hrow : t = { e.stopped with state := .follow, counter := targetOf row.angle e.stopped.perTurn }.show := by
      rw [ht, PulseEmulator.takeRow, show e.stopped.state = .idle from hstate, hcls]
    rw [hrow, htarget]
    exact ⟨rfl, rfl, rfl⟩
  · rw [ht, PulseEmulator.takeRow_of_waiting (e := e.stopped) (.inl hstate) hcls]
    rfl
  · rw [ht, PulseEmulator.takeRow_of_waiting (e := e.stopped) (.inr hstate) hcls]
    rfl
  · have hrow : t = { e.stopped with state := .frozen }.show := by
      rw [ht, PulseEmulator.takeRow]
      rcases hstate with h | h <;> rw [show e.stopped.state = _ from h, hcls]
    rw [hrow]
    exact ⟨rfl, rfl, rfl, rfl⟩
  · obtain ⟨hlow, hhigh, hmod⟩ := countDiff_spec e.perTurn_even (targetOf_lt row.angle e.perTurn_pos) hcounter
    have hrow : t = (e.stopped.stepBy (countDiff (targetOf row.angle e.perTurn) e.counter e.perTurn) now).show := by
      rw [ht]
      exact PulseEmulator.takeRow_of_step (e := e.stopped) hfollows now
    refine ⟨countDiff (targetOf row.angle e.perTurn) e.counter e.perTurn, hlow, hhigh, ?_, ?_, ?_, ?_, ?_⟩
    · rw [htarget]
      exact hmod
    all_goals
      rw [hrow]
      generalize countDiff (targetOf row.angle e.perTurn) e.counter e.perTurn = d
    · unfold PulseEmulator.stepBy
      split <;> rfl
    · rintro rfl
      exact ⟨rfl, rfl⟩
    · intro hne hle
      rw [PulseEmulator.stepBy, if_pos (show d.natAbs ≤ maxEdges from hle)]
      exact ⟨rfl, if_neg hne⟩
    · intro hlt
      rw [PulseEmulator.stepBy, if_neg (show ¬d.natAbs ≤ maxEdges from Nat.not_le.2 hlt)]
      exact ⟨rfl, rfl⟩

end Sys2Proof.Machine
end

section
/-! SUPPORT. A bind claim at the whole table: the row it asks for, the row it leaves, the other rows and the records (R10 to
R12). -/

namespace Sys2Proof.Machine

/-- An unbind claim's records, row by row. -/
theorem unbindFrom_snd (e : Epoch) (k : Station) (axis : Nat) (rows : List Row) : (unbindFrom e k axis rows).2 =
    (List.range rows.length).flatMap fun i => (rows.getD i Row.cleared).releaseEvents e k (axis + i) := by
  induction rows generalizing axis with
  | nil => rfl
  | cons r rs ih =>
    rw [unbindFrom_cons, ih, List.length_cons, List.range_succ_eq_map, List.flatMap_cons, List.flatMap_map]
    simp only [List.getD_cons_zero, List.getD_cons_succ, Nat.add_zero, Nat.add_assoc, Nat.add_comm 1]

theorem filter_insertSource {p : Source → Bool} {src : Source} (h : p src = false) (l : List Source) :
    (insertSource src l).filter p = l.filter p := by
  induction l with
  | nil => simp [insertSource, h]
  | cons x xs ih =>
    unfold insertSource
    split
    · simp [List.filter_cons, h]
    · simp [List.filter_cons, ih]

/-- What a bind does to a row that has room for a new source (R10, case 3). -/
theorem Row.bind_spec {r : Row} (hcons : r.consistent) {k : Station} (hnew : r.has k = false) :
    (r.bind k).sources.length = r.sources.length + 1 ∧
      (r.bind k).sources.filter (fun src => src.station ≠ k) = r.sources ∧
      (⟨k, if r.hasVoting then .candidate else .voting, 0, 0, none⟩ : Source) ∈ (r.bind k).sources ∧
      (r.bind k).state = (if r.sources = [] then .lost else r.state) ∧ (r.bind k).value = r.value ∧
      (r.bind k).holdAge = r.holdAge ∧ (r.bind k).stale = r.stale := by
  refine ⟨insertSource_length _ _, ?_, mem_insertSource.2 (.inl rfl), if_congr hcons rfl rfl, rfl, rfl, rfl⟩
  rw [Row.bind, filter_insertSource (by simp), Row.filter_station_of_not_has hnew]

/-- The records of a claim for a row the station is no source of: those of its leaving, then that of the answer. -/
theorem bindRows_events {e : Epoch} {rows : List Row} {k : Station} {axis : Axis} {refused : Bool}
    (hnew : (rowOf rows axis).has k = false) : (bindRows e rows k axis refused).2.2 = (unbindRows e rows k).2 ++
      if (rowOf rows axis).sources.length < 3
      then (if (rowOf rows axis).state = .unbound then [evRowState e axis.toNat .lost (rowOf rows axis).stale] else [])
      else if refused then [] else [evStationAxis .sourceRefused e k axis] := by
  have hrow : rowOf (unbindRows e rows k).1 axis = rowOf rows axis := by
    rw [rowOf_unbindRows, Row.released_of_not_has hnew]
  simp only [bindRows, hnew, hrow, rowCapacity, Bool.false_eq_true, if_false]
  split <;> rfl

/-- A row that a station leaves: its other records, and UNBOUND where none is left. -/
theorem Row.released_eq (r : Row) (k : Station) : r.released k = { r with
    sources := r.sources.filter fun src => src.station ≠ k
    state := if r.has k = true ∧ (r.sources.filter fun src => src.station ≠ k) = [] then .unbound else r.state } := by
  rw [← Row.released_sources, ← Row.released_state]
  conv_rhs => rw [← r.released_value k, ← r.released_holdAge k, ← r.released_stale k]

/-- Settles O26: the three answers, the other rows and the soundness. -/
theorem bindClaimIsAnswered : Obligations.BindClaimIsAnswered := by
  intro e p rows k axis refused hlen hrows hone r out r' others left
  have hok : tableOk p (bindRows e rows k axis refused).1 := tableOk.bindRows ⟨hlen, hrows, hone⟩ e k axis refused
  have hcons : (rowOf rows axis).consistent := (hrows _ (rowOf_mem hlen axis)).2
  have hleft : (unbindRows e rows k).2 = left := by
    rw [unbindRows, unbindFrom_snd, hlen]
    refine List.flatMap_congr fun a _ => ?_
    rw [Nat.zero_add, Row.releaseEvents, Row.released_sources]
  refine ⟨bindRows_of_has, fun hnew hroom => ?_, fun hnew hfull => ?_, fun a ha hnew => ?_, hok.2.1, hok.2.2⟩
  · obtain ⟨hlength, hothers, hmem, hstate, hvalue, hage, hstale⟩ := Row.bind_spec hcons hnew
    have hrow : r' = (rowOf rows axis).bind k := by
      show rowOf (bindRows e rows k axis refused).1 axis = _
      rw [rowOf_bindRows hlen hnew, if_pos ⟨rfl, hroom⟩]
    rw [hrow]
    refine ⟨(bindRows_answer hnew).trans (if_pos hroom), hlength, hothers, hmem, hstate, hvalue, hage, hstale, ?_⟩
    rw [← hleft]
    exact (bindRows_events hnew).trans (congrArg _ ((if_pos hroom).trans (if_congr hcons rfl rfl)))
  · have hnot : ¬(rowOf rows axis).sources.length < 3 := Nat.not_lt.2 (Nat.le_of_eq hfull.symm)
    have hrow : r' = rowOf rows axis := by
      show rowOf (bindRows e rows k axis refused).1 axis = _
      rw [rowOf_bindRows hlen hnew, if_neg fun h => hnot h.2, Row.released_of_not_has hnew]
    refine ⟨(bindRows_answer hnew).trans (if_neg hnot), hrow, ?_⟩
    rw [← hleft]
    exact (bindRows_events hnew).trans (congrArg _ (if_neg hnot))
  · show rowOf (bindRows e rows k axis refused).1 a = _
    rw [rowOf_bindRows hlen hnew, if_neg fun h => ha h.1, Row.released_eq]

end Sys2Proof.Machine
end

section
/-! SUPPORT. Stage 3 on three usable VOTING samples (R25, R26, R28): the order by offset, the median, the samples near it, and
the pair that is left where it stands alone. -/

namespace Sys2Proof.Machine

/-! ### Station sets -/

theorem stationBit_getLsbD (j k : Station) : (stationBit j).getLsbD k.toNat = true ↔ k = j := by
  revert j k
  decide

theorem stationSet_append (ks : List Station) (k : Station) : stationSet (ks ++ [k]) = stationSet ks ||| stationBit k := by
  simp [stationSet]

theorem stationSet_getLsbD (ks : List Station) (k : Station) : (stationSet ks).getLsbD k.toNat = true ↔ k ∈ ks := by
  induction ks using List.reverseRecOn with
  | nil => simp [stationSet]
  | append_singleton ks j ih =>
    rw [stationSet_append, BitVec.getLsbD_or, Bool.or_eq_true, ih, stationBit_getLsbD, List.mem_append,
      List.mem_singleton]

/-! ### The order by offset (R25) -/

/-- One sample stands before another: by circular offset from the reference, and equal offsets by station. -/
def VoteSample.before (ref : Angle) (x y : VoteSample) : Prop :=
  circDiff x.angle ref < circDiff y.angle ref ∨
    circDiff x.angle ref = circDiff y.angle ref ∧ x.station.toNat < y.station.toNat

theorem insertByOffset_perm (ref : Angle) (x : VoteSample) (l : List VoteSample) :
    (insertByOffset ref x l).Perm (x :: l) := by
  induction l with
  | nil => exact .refl _
  | cons y ys ih =>
    unfold insertByOffset
    split
    · exact .refl _
    · exact (ih.cons y).trans (.swap ..)

/-- Laid into place, a sample of a station above all others keeps the order. -/
theorem insertByOffset_sorted {ref : Angle} {x : VoteSample} {l : List VoteSample}
    (h : l.Pairwise (VoteSample.before ref)) (hx : ∀ y ∈ l, y.station.toNat < x.station.toNat) :
    (insertByOffset ref x l).Pairwise (VoteSample.before ref) := by
  induction l with
  | nil => exact List.pairwise_singleton ..
  | cons y ys ih =>
    obtain ⟨hy, hys⟩ := List.pairwise_cons.1 h
    unfold insertByOffset
    split
    · next hlt =>
      refine List.pairwise_cons.2 ⟨fun z hz => .inl ?_, h⟩
      rcases List.mem_cons.1 hz with rfl | hz
      · exact hlt
      · rcases hy z hz with hyz | ⟨hyz, -⟩ <;> omega
    · next hge =>
      refine List.pairwise_cons.2 ⟨fun z hz => ?_, ih hys fun z hz => hx z (List.mem_cons_of_mem _ hz)⟩
      rcases List.mem_cons.1 ((insertByOffset_perm ref x ys).mem_iff.1 hz) with rfl | hz
      · rcases Int.lt_or_eq_of_le (Int.not_lt.1 hge) with hlt | heq
        · exact .inl hlt
        · exact .inr ⟨heq, hx y List.mem_cons_self⟩
      · exact hy z hz

/-- The median is the second by offset from the first sample (R25). -/
theorem median_spec {a b c : VoteSample} (hab : a.station.toNat < b.station.toNat)
    (hbc : b.station.toNat < c.station.toNat) : ∃ lo hi, [lo, median a b c, hi].Perm [a, b, c] ∧
      VoteSample.before a.angle lo (median a b c) ∧ VoteSample.before a.angle (median a b c) hi := by
  have hsorted : (insertByOffset a.angle c (insertByOffset a.angle b [a])).Pairwise (VoteSample.before a.angle) := by
    refine insertByOffset_sorted (insertByOffset_sorted (List.pairwise_singleton ..) (by simpa using hab)) fun y hy => ?_
    rw [(insertByOffset_perm ..).mem_iff, List.mem_cons, List.mem_singleton] at hy
    rcases hy with rfl | rfl <;> omega
  have hperm : (insertByOffset a.angle c (insertByOffset a.angle b [a])).Perm [a, b, c] :=
    (insertByOffset_perm ..).trans (((insertByOffset_perm ..).cons c).trans ((List.reverse_perm [c, b, a]).symm))
  obtain ⟨lo, m, hi, hlist⟩ := List.length_eq_three.1 hperm.length_eq
  have hmedian : median a b c = m := by simp only [median, hlist]
  rw [hlist] at hsorted hperm
  obtain ⟨hlo, hrest⟩ := List.pairwise_cons.1 hsorted
  rw [hmedian]
  exact ⟨lo, hi, hperm, hlo m List.mem_cons_self, (List.pairwise_cons.1 hrest).1 hi List.mem_cons_self⟩

/-! ### The samples near the median (R26, R28) -/

/-- Whether a sample lies within TOL of the median. -/
def VoteSample.near (tol : Nat) (m x : VoteSample) : Bool := anglesAgree tol x.angle m.angle

theorem VoteSample.near_iff {tol : Nat} {m x : VoteSample} :
    VoteSample.near tol m x = true ↔ circMag x.angle m.angle ≤ tol := by
  simp [VoteSample.near, anglesAgree]

theorem VoteSample.near_self (tol : Nat) (m : VoteSample) : VoteSample.near tol m m = true := by
  simp [VoteSample.near, anglesAgree, circMag]

/-- The verdict of a median that another sample agrees with. -/
def medianVerdict (tol : Nat) (a b c m : VoteSample) : Verdict where
  state := .agreed
  fresh := some (m.angle, m.velocity, stationSet (([a, b, c].filter (VoteSample.near tol m)).map VoteSample.station))
  agreed := ([a, b, c].filter (VoteSample.near tol m)).map VoteSample.station
  outside := (([a, b, c].filter fun x => !VoteSample.near tol m x).map VoteSample.station).head?

theorem tripleVerdict_of_near {tol : Nat} {a b c : VoteSample}
    (h : 2 ≤ ([a, b, c].filter (VoteSample.near tol (median a b c))).length) :
    tripleVerdict tol a b c = medianVerdict tol a b c (median a b c) := if_pos h

theorem tripleVerdict_of_alone {tol : Nat} {a b c x y : VoteSample}
    (h : ¬2 ≤ ([a, b, c].filter (VoteSample.near tol (median a b c))).length)
    (hpair : [a, b, c].filter (fun x => x.station != (median a b c).station) = [x, y]) :
    tripleVerdict tol a b c =
      if circMag y.angle x.angle ≤ tol then pairVerdict x y (some (median a b c).station) else splitVerdict := by
  refine (if_neg h).trans ?_
  simp only [hpair, anglesAgree, decide_eq_true_eq]

/-- How many samples lie within TOL of the median, and how many beyond. -/
theorem near_length {tol : Nat} {a b c lo m hi : VoteSample} (hperm : [lo, m, hi].Perm [a, b, c]) :
    ([a, b, c].filter (VoteSample.near tol m)).length =
        (if circMag lo.angle m.angle ≤ tol then 1 else 0) + 1 + (if circMag hi.angle m.angle ≤ tol then 1 else 0) ∧
      ([a, b, c].filter (VoteSample.near tol m)).length + ([a, b, c].filter fun x => !VoteSample.near tol m x).length = 3 := by
  refine ⟨?_, ?_⟩
  · rw [← (hperm.filter _).length_eq]
    by_cases hlo : circMag lo.angle m.angle ≤ tol <;> by_cases hhi : circMag hi.angle m.angle ≤ tol <;>
      simp [VoteSample.near_iff, VoteSample.near_self, hlo, hhi]
  · exact (List.length_eq_length_filter_add (VoteSample.near tol m)).symm

/-- In a list of at most one element the first one is the one it has. -/
theorem head?_eq_some_iff_mem {α : Type} {l : List α} (h : l.length ≤ 1) {x : α} : l.head? = some x ↔ x ∈ l := by
  rcases l with _ | ⟨y, _ | ⟨z, rest⟩⟩
  · simp
  · simp [eq_comm]
  · simp at h

/-- The median's verdict, sample by sample (R26). -/
theorem medianVerdict_spec {tol : Nat} {a b c m : VoteSample}
    (h : 2 ≤ ([a, b, c].filter (VoteSample.near tol m)).length) :
    (∃ used, (medianVerdict tol a b c m).fresh = some (m.angle, m.velocity, used) ∧
      ∀ k : Station, used.getLsbD k.toNat = true ↔ ∃ x ∈ [a, b, c], x.station = k ∧ circMag x.angle m.angle ≤ tol) ∧
    (∀ k, (medianVerdict tol a b c m).outside = some k ↔
      ∃ x ∈ [a, b, c], x.station = k ∧ tol < circMag x.angle m.angle) ∧
    (∀ k, k ∈ (medianVerdict tol a b c m).agreed ↔
      ∃ x ∈ [a, b, c], x.station = k ∧ circMag x.angle m.angle ≤ tol) := by
  have hmem (k : Station) : k ∈ ([a, b, c].filter (VoteSample.near tol m)).map VoteSample.station ↔
      ∃ x ∈ [a, b, c], x.station = k ∧ circMag x.angle m.angle ≤ tol := by
    rw [List.mem_map]
    refine exists_congr fun x => ?_
    rw [List.mem_filter, VoteSample.near_iff]
    tauto
  refine ⟨⟨_, rfl, fun k => (stationSet_getLsbD _ k).trans (hmem k)⟩, fun k => ?_, hmem⟩
  have htotal := List.length_eq_length_filter_add (l := [a, b, c]) (VoteSample.near tol m)
  have hfar : (([a, b, c].filter fun x => !VoteSample.near tol m x).map VoteSample.station).length ≤ 1 := by
    rw [List.length_map]
    simp only [List.length_cons, List.length_nil] at htotal
    omega
  rw [medianVerdict, head?_eq_some_iff_mem hfar, List.mem_map]
  refine exists_congr fun x => ?_
  rw [List.mem_filter, Bool.not_eq_true', ← Bool.not_eq_true, VoteSample.near_iff, Nat.not_le]
  tauto

/-- Where the median stands alone the other two are left, in station order (R28). -/
theorem others_of_median {a b c lo m hi : VoteSample} (hab : a.station.toNat < b.station.toNat)
    (hbc : b.station.toNat < c.station.toNat) (hperm : [lo, m, hi].Perm [a, b, c]) :
    ∃ x y, [a, b, c].filter (fun x => x.station != m.station) = [x, y] ∧ [x, y].Perm [lo, hi] ∧
      x.station.toNat < y.station.toNat := by
  have hpairwise : [a, b, c].Pairwise fun x y => x.station.toNat < y.station.toNat := by
    simp only [List.pairwise_cons, List.mem_cons, List.not_mem_nil, or_false, forall_eq_or_imp, forall_eq, false_imp_iff,
      implies_true, List.Pairwise.nil, and_true]
    omega
  have hne : [lo, m, hi].Pairwise fun x y => x.station ≠ y.station :=
    (hperm.pairwise_iff fun h => h.symm).2 (hpairwise.imp fun h heq => absurd (congrArg BitVec.toNat heq) h.ne)
  simp only [List.pairwise_cons, List.mem_cons, List.not_mem_nil, or_false, forall_eq_or_imp, forall_eq] at hne
  obtain ⟨⟨hlom, -⟩, hmhi, -⟩ := hne
  have hfilter : ([a, b, c].filter fun x => x.station != m.station).Perm [lo, hi] := by
    refine (hperm.filter _).symm.trans (List.Perm.of_eq ?_)
    simp [hlom, Ne.symm hmhi]
  obtain ⟨x, y, hxy⟩ := List.length_eq_two.1 hfilter.length_eq
  have hsorted := hpairwise.sublist (List.filter_sublist (p := fun x => x.station != m.station))
  rw [hxy] at hfilter hsorted
  exact ⟨x, y, hxy, hfilter, (List.pairwise_cons.1 hsorted).1 y List.mem_cons_self⟩

theorem Row.verdict_of_three {r : Row} {a b c : VoteSample} (tol : Nat) (h : r.usableVoting = [a, b, c]) :
    r.verdict tol = tripleVerdict tol a b c := by
  simp only [Row.verdict, h]

/-- A sample that stage 2 finds belongs to a VOTING source, the only one of its station. -/
theorem Row.voting_of_sample {r : Row} (hasc : stationsAscend r.sources) {x : VoteSample} (hx : x ∈ r.usableVoting)
    {q : Source} (hq : q ∈ r.sources) (hst : x.station = q.station) : q.standing = .voting := by
  obtain ⟨src, hsrc, hvoting, _, -, -, rfl⟩ := Row.mem_usableVoting.1 hx
  rwa [← hasc.eq_of_station_eq hsrc hq hst]

/-- Settles O33: the median by the order of offsets, then the samples near it, then the pair that is left. -/
theorem threeSamplesTakeTheMedian : Obligations.ThreeSamplesTakeTheMedian := by
  intro plan r a b c hthree hasc v tol
  have hpairwise := Row.usableVoting_ascend hasc
  rw [hthree] at hpairwise
  simp only [List.pairwise_cons, List.mem_cons, List.not_mem_nil, or_false, forall_eq_or_imp, forall_eq] at hpairwise
  obtain ⟨⟨hab, -⟩, hbc, -⟩ := hpairwise
  obtain ⟨lo, hi, hperm, hlo, hhi⟩ := median_spec hab hbc
  have hv : v = tripleVerdict tol a b c := Row.verdict_of_three _ hthree
  have hvoting {x : VoteSample} (hx : x ∈ [a, b, c]) {q : Source} (hq : q ∈ r.sources) (hst : x.station = q.station) :
      q.standing = .voting := Row.voting_of_sample hasc (hthree ▸ hx) hq hst
  obtain ⟨hlength, -⟩ := near_length (tol := tol) hperm
  refine ⟨hab, hbc, lo, median a b c, hi, hperm, hlo, hhi, fun hnear => ?_, fun hfarlo hfarhi => ?_⟩
  · have htwo : 2 ≤ ([a, b, c].filter (VoteSample.near tol (median a b c))).length := by
      rw [hlength]
      rcases hnear with h | h <;> rw [if_pos h] <;> omega
    obtain ⟨hfresh, houtside, hagreed⟩ := medianVerdict_spec htwo
    rw [hv, tripleVerdict_of_near htwo]
    refine ⟨rfl, hfresh, houtside, fun q hq ⟨x, hx, hst, hmag⟩ => ?_⟩
    exact Source.score_of_agreed plan (hvoting hx hq hst) ((hagreed _).2 ⟨x, hx, hst, hmag⟩)
  · have halone : ¬2 ≤ ([a, b, c].filter (VoteSample.near tol (median a b c))).length := by
      rw [hlength, if_neg (Nat.not_le.2 hfarlo), if_neg (Nat.not_le.2 hfarhi)]
      decide
    obtain ⟨x, y, hxy, hpair, hlt⟩ := others_of_median hab hbc hperm
    have hmag : circMag y.angle x.angle = circMag hi.angle lo.angle := by
      have hcases : (x = lo ∧ y = hi) ∨ (x = hi ∧ y = lo) := by
        rcases List.mem_cons.1 (hpair.mem_iff.1 List.mem_cons_self) with rfl | hx
        · left
          simpa using hpair
        · right
          obtain rfl : x = hi := by simpa using hx
          have hswap := hpair.trans (.swap ..)
          simpa using hswap
      rcases hcases with ⟨rfl, rfl⟩ | ⟨rfl, rfl⟩
      · rfl
      · exact circMag_comm _ _
    rw [hv, tripleVerdict_of_alone halone hxy, hmag]
    refine ⟨fun hnear => ?_, fun hfar => ?_⟩
    · rw [if_pos hnear]
      refine ⟨rfl, rfl, ⟨x, y, hpair, hlt, ?_⟩, fun q hq hst => ?_⟩
      · simp [pairVerdict]
      · have hin : ∃ z ∈ [x, y], z.station = q.station := by
          rcases hst with h | h
          · exact ⟨lo, hpair.mem_iff.2 (by simp), h.symm⟩
          · exact ⟨hi, hpair.mem_iff.2 (by simp), h.symm⟩
        obtain ⟨z, hz, hzq⟩ := hin
        have hzmem : z ∈ [a, b, c] := by
          rw [← hxy] at hz
          exact List.mem_of_mem_filter hz
        refine Source.score_of_agreed plan (hvoting hzmem hq hzq) ?_
        rw [← hzq]
        exact List.mem_map_of_mem (f := VoteSample.station) hz
    · rw [if_neg (Nat.not_le.2 hfar)]
      exact ⟨rfl, fun q _ => Source.score_splitVerdict q plan⟩

end Sys2Proof.Machine
end

section
/-! SUPPORT. One row's vote: the rebuild, what stages 3 and 5 do at one source, the fresh or held result, and what an AGREED angle
rests on (R23, R27, R32 to R38). -/

namespace Sys2Proof.Machine

/-! ### The rebuild (R23) -/

theorem Row.hasVoting_iff {r : Row} : r.hasVoting = true ↔ ∃ q ∈ r.sources, q.standing = .voting := by
  simp [Row.hasVoting]

theorem Row.rebuild_of_none_voting {r : Row} (hne : r.sources ≠ []) (hnone : ∀ q ∈ r.sources, q.standing ≠ .voting) :
    r.rebuild = ({ r with
      sources := r.sources.map fun q => { q with standing := .voting, disagreeRun := 0, agreeRun := 0 } }, [.rebuilt]) := by
  refine if_pos ?_
  have hvoting : r.hasVoting = false := by
    rw [Bool.eq_false_iff, Ne, Row.hasVoting_iff]
    rintro ⟨q, hq, hst⟩
    exact hnone q hq hst
  simp [hvoting, hne]

theorem Row.rebuild_of_voting {r : Row} (h : r.sources = [] ∨ ∃ q ∈ r.sources, q.standing = .voting) :
    r.rebuild = (r, []) := by
  refine if_neg ?_
  rcases h with h | h
  · simp [h]
  · simp [Row.hasVoting_iff.2 h]

theorem Row.rebuild_nil_iff (r : Row) : r.rebuild.1.sources = [] ↔ r.sources = [] := by
  rw [← List.map_eq_nil_iff (f := Source.station), Row.rebuild_stations, List.map_eq_nil_iff]

/-! ### The verdict (R32, R38) -/

/-- Which shape a verdict has: nothing usable, one sample, a pair in agreement, the median, or a split. -/
theorem Row.verdict_cases (r : Row) (tol : Nat) :
    (r.usableVoting = [] ∧ r.verdict tol = ⟨if r.sources.isEmpty then .unbound else .lost, none, [], none⟩) ∨
    (∃ a, r.usableVoting = [a] ∧ (r.verdict tol).state = .single ∧ (r.verdict tol).fresh ≠ none) ∨
    (∃ a b out, [a, b].Sublist r.usableVoting ∧ circMag b.angle a.angle ≤ tol ∧ r.verdict tol = pairVerdict a b out) ∨
    (∃ a b c rest, r.usableVoting = a :: b :: c :: rest ∧
      2 ≤ ([a, b, c].filter (VoteSample.near tol (median a b c))).length ∧
      r.verdict tol = medianVerdict tol a b c (median a b c)) ∨
    r.verdict tol = splitVerdict := by
  unfold Row.verdict
  split
  · next h => exact .inl ⟨h, rfl⟩
  · next a h => exact .inr (.inl ⟨a, h, rfl, nofun⟩)
  · next a b h =>
    split
    · next hnear => exact .inr (.inr (.inl ⟨a, b, none, h ▸ .refl _, of_decide_eq_true hnear, rfl⟩))
    · exact .inr (.inr (.inr (.inr rfl)))
  · next a b c rest h =>
    by_cases htwo : 2 ≤ ([a, b, c].filter (VoteSample.near tol (median a b c))).length
    · exact .inr (.inr (.inr (.inl ⟨a, b, c, rest, h, htwo, tripleVerdict_of_near htwo⟩)))
    · have hsplit : ∀ l : List VoteSample, l.Sublist r.usableVoting → (∀ x y tail, l = x :: y :: tail →
          [x, y].Sublist r.usableVoting) := fun l hl x y tail heq =>
        (List.sublist_append_left [x, y] tail).trans (by rw [heq] at hl; exact hl)
      have hsub : ([a, b, c].filter fun x => x.station != (median a b c).station).Sublist r.usableVoting := by
        rw [h]
        exact List.filter_sublist.trans (List.sublist_append_left [a, b, c] rest)
      have heq : tripleVerdict tol a b c = _ := if_neg htwo
      rw [heq]
      split
      · next x y tail hl =>
        split
        · next hnear =>
          exact .inr (.inr (.inl ⟨x, y, _, hsplit _ hsub x y tail hl, of_decide_eq_true hnear, rfl⟩))
        · exact .inr (.inr (.inr (.inr rfl)))
      · exact .inr (.inr (.inr (.inr rfl)))

/-- A verdict has a fresh value exactly where the row is AGREED or SINGLE (R32). -/
theorem Row.verdict_fresh_iff (r : Row) (tol : Nat) :
    ((r.verdict tol).state = .agreed ∨ (r.verdict tol).state = .single) ↔ (r.verdict tol).fresh ≠ none := by
  rcases r.verdict_cases tol with ⟨-, h⟩ | ⟨a, -, hst, hfresh⟩ | ⟨a, b, out, -, -, h⟩ | ⟨a, b, c, rest, -, -, h⟩ | h
  · rw [h]
    cases r.sources.isEmpty <;> simp
  · exact iff_of_true (.inr hst) hfresh
  · rw [h]
    exact iff_of_true (.inl rfl) nofun
  · rw [h]
    exact iff_of_true (.inl rfl) nofun
  · rw [h]
    simp [splitVerdict]

theorem Row.verdict_of_none {r : Row} (h : r.usableVoting = []) (tol : Nat) :
    r.verdict tol = ⟨if r.sources.isEmpty then .unbound else .lost, none, [], none⟩ := by
  simp only [Row.verdict, h]

/-! ### The result (R32 to R34) -/

/-- The record that stage 4 leaves of a row, under the verdict on its rebuilt sources. -/
theorem Row.vote_settled (r : Row) (plan : Plan) (epoch : Epoch) :
    (r.vote plan epoch).1 = { r.rebuild.1.settle plan epoch (r.rebuild.1.verdict plan.tol) with
      sources := r.rebuild.1.sources.map fun q => (q.score plan (r.rebuild.1.verdict plan.tol)).1 } := rfl

theorem Row.vote_state (r : Row) (plan : Plan) (epoch : Epoch) :
    (r.vote plan epoch).1.state = (r.rebuild.1.verdict plan.tol).state := by
  show (r.rebuild.1.settle plan epoch _).state = _
  unfold Row.settle
  split <;> rfl

/-- A fresh result rewrites the row's record whole (R33). -/
theorem Row.vote_of_fresh {r : Row} {plan : Plan} {angle : Angle} {velocity : Velocity} {used : StationSet}
    (h : (r.rebuild.1.verdict plan.tol).fresh = some (angle, velocity, used)) (epoch : Epoch) :
    (r.vote plan epoch).1.value = some ⟨angle, velocity, epoch, used⟩ ∧ (r.vote plan epoch).1.holdAge = 0 ∧
      (r.vote plan epoch).1.stale = false := by
  have hsettle : r.rebuild.1.settle plan epoch (r.rebuild.1.verdict plan.tol) = { r.rebuild.1 with
      state := (r.rebuild.1.verdict plan.tol).state, value := some ⟨angle, velocity, epoch, used⟩
      holdAge := 0, stale := false } := by
    simp only [Row.settle, h]
  rw [Row.vote_settled, hsettle]
  exact ⟨rfl, rfl, rfl⟩

/-- Settles O34: stage 4 by the fresh value of stage 3. -/
theorem rowSettlesFreshOrHeld : Obligations.RowSettlesFreshOrHeld := by
  intro code epoch r hage plan t formed
  obtain ⟨-, hvalue, hholdAge, hstale⟩ := r.rebuild_kept
  have ht : t.state = formed.state := r.vote_state plan epoch
  refine ⟨ht, ?_, fun angle velocity used hfresh => Row.vote_of_fresh hfresh epoch, fun hheld => ?_, fun hnone => ?_⟩
  · rw [ht]
    exact Row.verdict_fresh_iff _ _
  · have hsettle : r.rebuild.1.settle plan epoch formed = { r.rebuild.1 with
        state := formed.state
        holdAge := min 255 (r.rebuild.1.holdAge + 1)
        stale := r.rebuild.1.stale || decide (min 255 (r.rebuild.1.holdAge + 1) ≥ plan.stale) } := by
      simp only [Row.settle, hheld]
    simp only [t, Row.vote_settled]
    rw [hsettle, ← hvalue, ← hholdAge, ← hstale]
    exact ⟨rfl, rfl, rfl⟩
  · have hformed : formed = ⟨if r.rebuild.1.sources.isEmpty then .unbound else .lost, none, [], none⟩ :=
      Row.verdict_of_none hnone plan.tol
    rw [ht, hformed]
    exact ⟨rfl, if_congr (List.isEmpty_iff.trans r.rebuild_nil_iff) rfl rfl⟩

/-! ### One source (R27, R35 to R37) -/

theorem Source.score_of_charged {q : Source} {plan : Plan} {v : Verdict} (hvote : q.standing = .voting)
    (hin : q.station ∉ v.agreed) (hout : v.outside = some q.station) : q.score plan v =
      if plan.div ≤ q.disagreeRun + 1
      then ({ q with standing := .diverged, disagreeRun := plan.div, agreeRun := 0 }, [.diverged q.station])
      else ({ q with disagreeRun := q.disagreeRun + 1 }, []) := by
  simp [Source.score, hvote, hin, hout]

/-- Stage 5 at a probation source with a usable sample. -/
theorem Source.score_of_judged {q : Source} {plan : Plan} {v : Verdict} (hvote : q.standing ≠ .voting)
    {x : SourceSample} (hx : q.sample = some x) (hus : x.usable = true) {angle : Angle} {velocity : Velocity}
    {used : StationSet} (hfresh : v.fresh = some (angle, velocity, used)) : q.score plan v =
      if circMag x.angle angle ≤ plan.tol then
        (if plan.readmit ≤ q.agreeRun + 1
          then ({ q with standing := .voting, disagreeRun := 0, agreeRun := plan.readmit }, [.readmitted q.station])
          else ({ q with agreeRun := q.agreeRun + 1 }, []))
      else ({ q with agreeRun := 0 }, []) := by
  have husable : q.usableSample = some x := by simp [Source.usableSample, hx, hus]
  cases hs : q.standing with
  | voting => exact absurd hs hvote
  | candidate => simp [Source.score, hs, hfresh, husable, anglesAgree]
  | diverged => simp [Source.score, hs, hfresh, husable, anglesAgree]

theorem Source.score_of_unusable {q : Source} {plan : Plan} {v : Verdict} (hvote : q.standing ≠ .voting)
    (h : ∀ x, q.sample = some x → x.usable = false) : q.score plan v = (q, []) := by
  have husable : q.usableSample = none := by
    rw [Source.usableSample, Option.filter_eq_none_iff]
    exact fun x hx => by simp [h x hx]
  cases hs : q.standing with
  | voting => exact absurd hs hvote
  | candidate => simp [Source.score, hs, husable]
  | diverged => simp [Source.score, hs, husable]

/-- Settles O35: the rebuild, the composition of the vote, and one source by its standing. -/
theorem sourcesEarnAndLoseStanding : Obligations.SourcesEarnAndLoseStanding := by
  refine ⟨fun r => ⟨Row.rebuild_of_none_voting, Row.rebuild_of_voting⟩,
    fun plan epoch r => ⟨rfl, rfl, fun hnone q hq hst => ?_⟩, fun plan src v => ⟨fun hst hin hout => ⟨fun hlt => ?_,
      fun heq => ?_⟩, fun hst hnot => ?_, fun x angle vel used hst hx hus hfresh => ⟨fun hfar => ?_, fun hnear hlt => ?_,
      fun hnear heq => ?_⟩⟩⟩
  · rw [Row.verdict_of_none hnone]
    exact Source.score_of_unjudged plan hst nofun nofun
  · rw [Source.score_of_charged hst hin hout, if_neg (Nat.not_le.2 hlt)]
  · rw [Source.score_of_charged hst hin hout, if_pos heq.ge]
  · rcases hnot with h | h
    · exact Source.score_of_held plan hst h
    · exact Source.score_of_unusable hst h
  · rw [Source.score_of_judged hst hx hus hfresh, if_neg (Nat.not_le.2 hfar)]
  · rw [Source.score_of_judged hst hx hus hfresh, if_pos hnear, if_neg (Nat.not_le.2 hlt)]
  · rw [Source.score_of_judged hst hx hus hfresh, if_pos hnear, if_pos heq.ge]

/-! ### What an AGREED angle rests on (R38) -/

/-- The midpoint lies within half the difference of both angles. -/
theorem circMag_midAngle {a b : Angle} {tol : Nat} (h : circMag b a ≤ tol) :
    circMag a (midAngle a b) ≤ tol ∧ circMag b (midAngle a b) ≤ tol := by
  obtain ⟨hlo, hhi⟩ := circDiff_range b a
  have hb : b = a + BitVec.ofInt 16 (circDiff b a) := (angleAdd_circDiff b a).symm
  have hmid (d : Int) (hd : -32768 ≤ d) (hd' : d ≤ 32767) (x : Angle) (hx : x = midAngle a b + BitVec.ofInt 16 d) :
      circDiff x (midAngle a b) = d := by
    rw [hx, circDiff, BitVec.add_comm, BitVec.add_sub_cancel, BitVec.toInt_ofInt, Int.bmod]
    omega
  have ha : circDiff a (midAngle a b) = -(circDiff b a / 2) := by
    refine hmid _ (by omega) (by omega) _ ?_
    rw [midAngle, angleAdd, BitVec.add_assoc, ← BitVec.ofInt_add]
    simp
  have hb' : circDiff b (midAngle a b) = circDiff b a - circDiff b a / 2 := by
    refine hmid _ (by omega) (by omega) _ ?_
    rw [midAngle, angleAdd, BitVec.add_assoc, ← BitVec.ofInt_add]
    conv_lhs => rw [hb]
    congr 2
    omega
  unfold circMag at h ⊢
  rw [ha, hb']
  omega

/-- An AGREED verdict rests on two usable VOTING samples of different stations within TOL of its angle. -/
theorem Row.verdict_agreed {r : Row} {tol : Nat} (hasc : stationsAscend r.sources)
    (h : (r.verdict tol).state = .agreed) : ∃ a ∈ r.usableVoting, ∃ b ∈ r.usableVoting, ∃ angle velocity used,
      a.station ≠ b.station ∧ (r.verdict tol).fresh = some (angle, velocity, used) ∧
      circMag a.angle angle ≤ tol ∧ circMag b.angle angle ≤ tol := by
  have hdistinct : r.usableVoting.Pairwise fun x y => x.station ≠ y.station :=
    (Row.usableVoting_ascend hasc).imp fun hlt heq => absurd (congrArg BitVec.toNat heq) hlt.ne
  have hpair {x y : VoteSample} (hsub : [x, y].Sublist r.usableVoting) :
      x ∈ r.usableVoting ∧ y ∈ r.usableVoting ∧ x.station ≠ y.station :=
    ⟨hsub.subset List.mem_cons_self, hsub.subset (List.mem_cons_of_mem _ List.mem_cons_self),
      (List.pairwise_cons.1 (hdistinct.sublist hsub)).1 y List.mem_cons_self⟩
  rcases r.verdict_cases tol with ⟨-, hv⟩ | ⟨a, -, hst, -⟩ | ⟨a, b, out, hsub, hnear, hv⟩ | ⟨a, b, c, rest, hu, htwo, hv⟩ | hv
  · rw [hv] at h
    revert h
    cases r.sources.isEmpty <;> simp
  · rw [hst] at h
    cases h
  · obtain ⟨ha, hb, hne⟩ := hpair hsub
    obtain ⟨hmaga, hmagb⟩ := circMag_midAngle hnear
    rw [hv]
    exact ⟨a, ha, b, hb, _, _, _, hne, rfl, hmaga, hmagb⟩
  · have hnearby : ∀ x ∈ [a, b, c].filter (VoteSample.near tol (median a b c)),
        circMag x.angle (median a b c).angle ≤ tol := fun x hx => VoteSample.near_iff.1 (List.mem_filter.1 hx).2
    have hsublist : ([a, b, c].filter (VoteSample.near tol (median a b c))).Sublist r.usableVoting := by
      rw [hu]
      exact List.filter_sublist.trans (List.sublist_append_left [a, b, c] rest)
    obtain ⟨x, y, tail, hxy⟩ : ∃ x y tail, [a, b, c].filter (VoteSample.near tol (median a b c)) = x :: y :: tail := by
      match hl : [a, b, c].filter (VoteSample.near tol (median a b c)) with
      | [] => rw [hl] at htwo; exact absurd htwo (by decide)
      | [x] => rw [hl, List.length_singleton] at htwo; exact absurd htwo (by decide)
      | x :: y :: tail => exact ⟨x, y, tail, rfl⟩
    rw [hxy] at hnearby hsublist
    obtain ⟨hx, hy, hne⟩ := hpair ((List.sublist_append_left [x, y] tail).trans hsublist)
    rw [hv]
    exact ⟨x, hx, y, hy, _, _, _, hne, rfl, hnearby x List.mem_cons_self,
      hnearby y (List.mem_cons_of_mem _ List.mem_cons_self)⟩
  · rw [hv] at h
    cases h

/-- The rebuild keeps every source's station and sample. -/
theorem Row.rebuild_source {r : Row} {q : Source} (hq : q ∈ r.rebuild.1.sources) :
    ∃ x ∈ r.sources, x.station = q.station ∧ x.sample = q.sample := by
  unfold Row.rebuild at hq
  split at hq
  · obtain ⟨x, hx, rfl⟩ := List.mem_map.1 hq
    exact ⟨x, hx, rfl, rfl⟩
  · exact ⟨q, hq, rfl, rfl⟩

/-- Settles O30: the two samples of the verdict, found in the row before the rebuild. -/
theorem agreedAngleLiesWithinTolerance : Obligations.AgreedAngleLiesWithinTolerance := by
  intro code epoch r hasc _ hagreed
  have hascend : stationsAscend r.rebuild.1.sources := by
    unfold stationsAscend
    rwa [Row.rebuild_stations]
  obtain ⟨a, ha, b, hb, angle, velocity, used, hne, hfresh, hmaga, hmagb⟩ :=
    Row.verdict_agreed hascend ((r.vote_state _ epoch).symm.trans hagreed)
  obtain ⟨p, hp, -, x, hx, hxus, rfl⟩ := Row.mem_usableVoting.1 ha
  obtain ⟨q, hq, -, y, hy, hyus, rfl⟩ := Row.mem_usableVoting.1 hb
  obtain ⟨p', hp', hpst, hpsample⟩ := Row.rebuild_source hp
  obtain ⟨q', hq', hqst, hqsample⟩ := Row.rebuild_source hq
  exact ⟨p', hp', q', hq', x, y, ⟨angle, velocity, epoch, used⟩, by rwa [hpst, hqst], hpsample.trans hx,
    hqsample.trans hy, hxus, hyus, (Row.vote_of_fresh hfresh epoch).1, hmaga, hmagb, rfl⟩

end Sys2Proof.Machine
end

section
/-! SUPPORT. A vote's completion: the publication at the Snapshot Store and the emulator, the write-back, and the end of the VOTE
self-test (R15, R39 to R41, R135 to R138, R162, R167). -/

namespace Sys2Proof.Machine

/-! ### The end of the VOTE self-test (R167, R169) -/

/-- Under every plan the model's vote meets all six cases (log 25). -/
theorem voteTestOutcome_eq (s : State) : voteTestOutcome s.plan = .pass := Sys2Proof.Tests.test_vote_cases_pass s.timer.plan

theorem State.endVoteTest_eq {s : State} (h : s.engine.vote = none) : s.endVoteTest =
    ({ s with tests := ⟨none, some ⟨.vote, .pass, some s.timer.epoch⟩⟩ } : State).emit
      [evTestDone s.timer.epoch .vote .pass] := by
  have hengine : ({ s.engine with vote := s.engine.vote.map fun v => { v with testRuns := false } } : AgreementEngine) =
      s.engine := by
    rw [h, Option.map_none, ← h]
  have hfinish : s.finishTest .vote .pass = { s with tests := ⟨none, some ⟨.vote, .pass, some s.timer.epoch⟩⟩ } := by
    simp only [State.finishTest, State.endEffects, hengine]
  simp only [State.endVoteTest, voteTestOutcome_eq, State.endTest, State.postTestEnd, TestCode.marksSample,
    Bool.false_eq_true, false_and, if_false, hfinish, State.endTestEvents]

/-! ### The blocks that a completion changes -/

/-- A completion without the test's end. -/
def State.voteTaken (s : State) (v : VoteInFlight) : State := (s.writtenBack v).emit (s.voteRecords v)

theorem State.completeVote_of_no_test {s : State} {v : VoteInFlight} (h : v.testRuns = false ∨ s.tests.runs .vote = false) :
    s.completeVote v = s.voteTaken v := by
  rw [State.completeVote_eq, if_neg]
  · rfl
  · rcases h with h | h <;> simp [h]

theorem State.completeVote_of_test {s : State} {v : VoteInFlight} (hv : v.testRuns = true) (ht : s.tests.runs .vote = true) :
    s.completeVote v = ({ s.voteTaken v with tests := ⟨none, some ⟨.vote, .pass, some s.timer.epoch⟩⟩ } : State).emit
      [evTestDone s.timer.epoch .vote .pass] := by
  have htimer : (s.voteTaken v).timer = s.timer := by
    unfold State.voteTaken State.writtenBack State.publishedIf
    rw [State.emit_timer]
    split <;> rfl
  rw [State.completeVote_eq, if_pos ⟨hv, ht⟩, ← htimer]
  exact State.endVoteTest_eq rfl

/-- What every completion does, with the test's end or without, at the blocks it may change. -/
theorem State.completeVote_blocks (s : State) (v : VoteInFlight) :
    (s.completeVote v).emulator = (s.publishedIf v).emulator ∧ (s.completeVote v).line = s.line ∧
      (s.completeVote v).faults = s.faults := by
  have htaken : (s.voteTaken v).emulator = (s.publishedIf v).emulator ∧ (s.voteTaken v).line = s.line ∧
      (s.voteTaken v).faults = s.faults := by
    unfold State.voteTaken State.writtenBack State.publishedIf
    rw [State.emit_emulator, State.emit_line, State.emit_faults]
    split <;> exact ⟨rfl, rfl, rfl⟩
  by_cases h : v.testRuns = true ∧ s.tests.runs .vote = true
  · rw [State.completeVote_of_test h.1 h.2]
    exact htaken
  · rw [State.completeVote_of_no_test (by simpa [imp_iff_not_or] using h)]
    exact htaken

/-! ### The Snapshot Store at a publication (R137) -/

/-- Of the pages that are not FRONT the earliest unpinned one of the spare order is the next FILL. -/
theorem SnapshotStore.find?_nextFill {st : SnapshotStore} {front : PageNumber}
    (h : (front :: st.spare).Perm [0, 1, 2]) :
    (st.spare.find? fun p => st.pin.map Pin.page ≠ some p) = some (st.nextFill front) := by
  obtain ⟨hmem, hunpinned⟩ := SnapshotStore.nextFill_spec h
  have hfront : front ∉ st.spare := (List.nodup_cons.1 (h.nodup_iff.2 (by decide))).1
  have hcongr : (st.spare.find? fun p => decide (st.pin.map Pin.page ≠ some p)) =
      st.spare.find? fun p => p != front && !st.pinned p := by
    refine List.find?_congr fun p hp => ?_
    have hne : (p != front) = true := bne_iff_ne.2 fun heq => hfront (heq ▸ hp)
    rw [hne, Bool.true_and, SnapshotStore.pinned, Bool.eq_iff_iff]
    simp
  have hfound : ∃ x, (st.spare.find? fun p => p != front && !st.pinned p) = some x := by
    rw [← Option.isSome_iff_exists, List.find?_isSome]
    refine ⟨_, hmem, ?_⟩
    have hne : st.nextFill front ≠ front := fun heq => hfront (heq ▸ hmem)
    simp [hne, hunpinned]
  obtain ⟨x, hx⟩ := hfound
  rw [hcongr, SnapshotStore.nextFill, List.find?_append, hx]
  rfl

theorem SnapshotStore.page_setPage {st : SnapshotStore} (h : st.pages.length = 3) (p q : PageNumber) (pg : Page) :
    (st.setPage p pg).page q = if q = p then pg else st.page q := by
  have hp : p.val < st.pages.length := by rw [h]; exact p.isLt
  simp only [SnapshotStore.page, SnapshotStore.setPage, List.getD_eq_getElem?_getD, List.getElem?_set, hp, if_true]
  by_cases hqp : q = p
  · simp [hqp]
  · rw [if_neg fun heq => hqp (Fin.ext heq.symm), if_neg hqp]

/-- A publication at a store with sound roles: the new FRONT and FILL, the spare order and the pages. -/
theorem SnapshotStore.publish_spec {st : SnapshotStore} (h : st.ok) (pg : Page) (now : Instant) :
    (st.publish pg now).page st.fill = pg ∧
    ((st.spare ++ st.front.toList).find? fun p => st.pin.map Pin.page ≠ some p) = some (st.publish pg now).fill ∧
    (st.publish pg now).spare = (st.spare ++ st.front.toList).filter (fun p => p ≠ (st.publish pg now).fill) ∧
    (st.publish pg now).fill ≠ st.fill ∧
    (∀ p ∈ st.pin, p.page ≠ (st.publish pg now).fill) ∧
    ((st.publish pg now).page (st.publish pg now).fill).valid = false ∧
    (∀ p : PageNumber, p ≠ st.fill → p ≠ (st.publish pg now).fill → (st.publish pg now).page p = st.page p) := by
  obtain ⟨hlen, -, hperm, -⟩ := h
  have hspares : (st.fill :: (st.spare ++ st.front.toList)).Perm [0, 1, 2] :=
    (List.perm_append_comm.cons _).trans hperm
  have hfind := SnapshotStore.find?_nextFill
    (st := { st.setPage st.fill pg with spare := st.spare ++ st.front.toList }) hspares
  obtain ⟨hmem, -⟩ :=
    SnapshotStore.nextFill_spec (st := { st.setPage st.fill pg with spare := st.spare ++ st.front.toList }) hspares
  have hne : (st.publish pg now).fill ≠ st.fill := fun heq =>
    (List.nodup_cons.1 (hspares.nodup_iff.2 (by decide))).1 (heq ▸ hmem)
  have hpage (q : PageNumber) : (st.publish pg now).page q = if q = (st.publish pg now).fill
      then { (st.setPage st.fill pg).page (st.publish pg now).fill with valid := false }
      else (st.setPage st.fill pg).page q :=
    SnapshotStore.page_setPage (st := { st.setPage st.fill pg with spare := st.spare ++ st.front.toList })
      (by simpa [SnapshotStore.setPage] using hlen) _ q _
  refine ⟨?_, hfind, ?_, hne, fun p hp heq => ?_, ?_, fun p hfill hnext => ?_⟩
  · rw [hpage, if_neg hne.symm, SnapshotStore.page_setPage hlen, if_pos rfl]
  · exact List.filter_congr fun p _ => Bool.eq_iff_iff.2 (bne_iff_ne.trans decide_eq_true_iff.symm)
  · have hunpinned := List.find?_some hfind
    rw [decide_eq_true_iff] at hunpinned
    rw [Option.mem_def] at hp
    refine hunpinned ?_
    show st.pin.map Pin.page = _
    rw [hp, Option.map_some, heq]
    rfl
  · rw [hpage, if_pos rfl]
  · rw [hpage, if_neg hnext, SnapshotStore.page_setPage hlen, if_neg hfill]

theorem mem_allStations (k : Station) : k ∈ allStations := by
  revert k
  decide

/-- The present set (Table 8-2). -/
theorem MembershipUnit.presentSet_iff (m : MembershipUnit) (k : Station) : m.presentSet.getLsbD k.toNat = true ↔
    (m.peer k).state = .present ∨ (m.peer k).state = .silent ∨
      k = m.ownStation ∧ (m.selfState = .joining ∨ m.selfState = .active) := by
  rw [MembershipUnit.presentSet, stationSet_getLsbD, List.mem_filter]
  simp only [mem_allStations, true_and, Bool.or_eq_true, Bool.and_eq_true, beq_iff_eq, SelfState.member_iff, or_assoc]
  rfl

/-! ### The rows of a vote -/

theorem rowOf_voted {v : VoteInFlight} (hlen : v.rows.length = 8) (plan : Plan) (a : Axis) :
    rowOf (v.voted plan) a = ((rowOf v.rows a).vote plan v.epoch).1 := by
  have ha : a.toNat < v.rows.length := by have := a.isLt; omega
  simp [rowOf, VoteInFlight.voted, ha]

theorem publishedPage_row {v : VoteInFlight} (hlen : v.rows.length = 8) (s : State) (a : Axis) :
    (s.publishedPage (v.voted s.plan) v.epoch).rows[a.toNat]? =
      some ((rowOf v.rows a).vote s.plan v.epoch).1.pageRow := by
  have ha : a.toNat < v.rows.length := by have := a.isLt; omega
  simp [State.publishedPage, VoteInFlight.voted, rowOf, ha]

/-- The row of an axis after the write-back (R15). -/
theorem Row.writeBack_spec (t v : Row) :
    (t.writeBack v).sources = (t.sources.map fun src =>
      match v.sources.find? fun x => x.station == src.station with
      | some x => ⟨src.station, x.standing, x.disagreeRun, x.agreeRun, src.sample⟩
      | none => src) ∧
    (t.writeBack v).value = v.value ∧ (t.writeBack v).holdAge = v.holdAge ∧ (t.writeBack v).stale = v.stale ∧
    (t.writeBack v).state =
      (if t.sources = [] then .unbound else if v.state = .unbound then .lost else v.state) := by
  refine ⟨List.map_congr_left fun src _ => ?_, rfl, rfl, rfl, if_congr List.isEmpty_iff rfl rfl⟩
  unfold Source.writeBack
  cases v.sources.find? fun x => x.station == src.station <;> rfl

theorem SelfState.votes_iff (st : SelfState) : st.votes = true ↔ st ≠ .listen ∧ st ≠ .lockout := by
  cases st <;> simp [SelfState.votes]

theorem State.publishedIf_emulator {s : State} (h : s.member.selfState.votes = true) {v : VoteInFlight}
    (hlen : v.rows.length = 8) : (s.publishedIf v).emulator =
      s.emulator.publish ((rowOf v.rows s.member.ownAxis).vote s.plan v.epoch).1.pageRow s.clock := by
  have hrow : (s.publishedPage (v.voted s.plan) v.epoch).rows.getD s.member.ownAxis.toNat PageRow.cleared =
      ((rowOf v.rows s.member.ownAxis).vote s.plan v.epoch).1.pageRow := by
    rw [List.getD_eq_getElem?_getD, publishedPage_row hlen, Option.getD_some]
  rw [State.publishedIf, if_pos h, ← hrow]
  rfl

theorem exec_voteCompletion {s : State} {v : VoteInFlight} (h : s.engine.vote = some v) :
    exec .voteCompletion s = .next (s.completeVote v) := by
  refine congrArg Host.Outcome.next ?_
  simp only [h]

/-- Settles O28: the publication, the write-back and what is kept. -/
theorem voteCompletionPublishes : Obligations.VoteCompletionPublishes := by
  refine ⟨fun s hnone => ?_, fun s v hv hroles hrows hvrows => ⟨s.completeVote v, exec_voteCompletion hv, ?_⟩⟩
  · refine congrArg Host.Outcome.next ?_
    simp only [hnone]
  obtain ⟨hclock, htimer, hmember, -, -⟩ := s.completeVote_kept v
  obtain ⟨hemulator, hline, hfaults⟩ := s.completeVote_blocks v
  have hstore := s.completeVote_store v
  rw [State.completeVote_engine]
  refine ⟨fun hself => ?_, fun hlisten hlockout => ?_, rfl, fun a => ?_, htimer, hmember, s.completeVote_sensor v, hclock,
    fun hnotest => ⟨hline, hfaults, ?_⟩⟩
  · have hvotes : ¬s.member.selfState.votes = true := by
      rw [SelfState.votes_iff]
      exact fun ⟨h1, h2⟩ => hself.elim h1 h2
    rw [hstore, if_neg hvotes, hemulator, State.publishedIf, if_neg hvotes]
    exact ⟨rfl, rfl⟩
  · have hvotes : s.member.selfState.votes = true := (SelfState.votes_iff _).2 ⟨hlisten, hlockout⟩
    rw [hemulator, State.publishedIf_emulator hvotes hvrows, hstore, if_pos hvotes]
    obtain ⟨hpage, hfind, hspare, hfill, hpin, hvalid, hothers⟩ :=
      SnapshotStore.publish_spec (s.rolesSound_iff.1 hroles) (s.publishedPage (v.voted s.plan) v.epoch) s.clock
    rw [hpage]
    exact ⟨rfl, rfl, rfl, rfl, rfl, rfl, rfl, s.member.presentSet_iff, publishedPage_row hvrows s, hfind, hspare, hfill,
      rfl, hpin, hvalid, hothers, rfl, rfl⟩
  · have hrow : rowOf (writeBackRows s.engine.rows (v.voted s.plan)) a =
        (rowOf s.engine.rows a).writeBack ((rowOf v.rows a).vote s.plan v.epoch).1 := by
      rw [rowOf_writeBackRows hrows (by simpa [VoteInFlight.voted] using hvrows), rowOf_voted hvrows]
    show (rowOf (writeBackRows _ _) a).sources = _ ∧ _
    rw [hrow]
    exact Row.writeBack_spec _ _
  · rw [State.completeVote_of_no_test (.inl hnotest)]
    unfold State.voteTaken State.writtenBack State.publishedIf
    rw [State.emit_tests]
    split <;> rfl

end Sys2Proof.Machine
end

section
/-! SUPPORT. The records of a vote's completion, list by list (R15, R21, R159, R169). -/

namespace Sys2Proof.Machine

/-! ### The source events (R21) -/

theorem voteEventsFrom_eq (e : Epoch) (plan : Plan) (epoch : Epoch) (axis : Nat) (rows : List Row) :
    voteEventsFrom e plan epoch axis rows = (List.range rows.length).flatMap fun i =>
      ((rows.getD i Row.cleared).vote plan epoch).2.map (VoteEvent.record e (axis + i)) := by
  induction rows generalizing axis with
  | nil => rfl
  | cons r rs ih =>
    rw [voteEventsFrom, ih, List.length_cons, List.range_succ_eq_map, List.flatMap_cons, List.flatMap_map]
    simp only [List.getD_cons_zero, List.getD_cons_succ, Nat.add_zero, Nat.add_assoc, Nat.add_comm 1]

/-- The event of a source tells its change of standing. -/
theorem Source.score_events (q : Source) (plan : Plan) (v : Verdict) : (q.score plan v).2 =
    if (q.score plan v).1.standing = .diverged ∧ q.standing = .voting then [.diverged q.station]
    else if (q.score plan v).1.standing = .voting ∧ q.standing ≠ .voting then [.readmitted q.station] else [] := by
  have hcases : (q.score plan v = ({ q with standing := .diverged, disagreeRun := plan.div, agreeRun := 0 },
        [.diverged q.station]) ∧ q.standing = .voting) ∨
      (q.score plan v = ({ q with standing := .voting, disagreeRun := 0, agreeRun := plan.readmit },
        [.readmitted q.station]) ∧ q.standing ≠ .voting) ∨
      ((q.score plan v).2 = [] ∧ (q.score plan v).1.standing = q.standing) := by
    unfold Source.score
    cases hs : q.standing with
    | voting =>
      dsimp only
      split_ifs
      · exact .inr (.inr ⟨rfl, rfl⟩)
      · exact .inl ⟨rfl, rfl⟩
      · exact .inr (.inr ⟨rfl, rfl⟩)
      · exact .inr (.inr ⟨rfl, hs⟩)
    | candidate | diverged =>
      dsimp only
      split
      · split_ifs
        · exact .inr (.inl ⟨rfl, nofun⟩)
        · exact .inr (.inr ⟨rfl, rfl⟩)
        · exact .inr (.inr ⟨rfl, rfl⟩)
      · exact .inr (.inr ⟨rfl, hs⟩)
  rcases hcases with ⟨h, hs⟩ | ⟨h, hs⟩ | ⟨h, hs⟩
  · rw [h, if_pos ⟨rfl, hs⟩]
  · rw [h, if_neg (by simp), if_pos ⟨rfl, hs⟩]
  · rw [h, hs, if_neg (fun h => by simp [h.2] at h), if_neg (fun h => h.2 h.1)]

/-- The record of a source's event, told from its standing before the vote and after it. -/
def sourceRecord (e : Epoch) (axis : Nat) (rebuilt : Bool) (x y : Source) : List EventRecord :=
  if y.standing = .diverged ∧ (x.standing = .voting ∨ rebuilt = true) then
    [⟨.sourceDiverged, e, some x.station, some (BitVec.ofNat 3 axis), none⟩]
  else if y.standing = .voting ∧ x.standing ≠ .voting ∧ ¬rebuilt = true then
    [⟨.sourceReadmitted, e, some x.station, some (BitVec.ofNat 3 axis), none⟩]
  else []

/-- Whether stage 1 rebuilds a row (R23). -/
def Row.rebuilds (r : Row) : Bool := !r.sources.isEmpty && !r.hasVoting

theorem Row.rebuilds_iff {r : Row} :
    r.rebuilds = true ↔ r.sources ≠ [] ∧ ∀ x ∈ r.sources, x.standing ≠ .voting := by
  rw [Row.rebuilds, Bool.and_eq_true, Bool.not_eq_true', Bool.not_eq_true', Bool.eq_false_iff, Bool.eq_false_iff, Ne, Ne,
    List.isEmpty_iff, Row.hasVoting_iff]
  simp

/-- A source as stages 3 and 5 meet it: after the rebuild, where there is one. -/
def Source.rebuiltIf (rebuilt : Bool) (q : Source) : Source :=
  if rebuilt then { q with standing := .voting, disagreeRun := 0, agreeRun := 0 } else q

theorem Row.rebuild_eq (r : Row) : r.rebuild.1.sources = r.sources.map (Source.rebuiltIf r.rebuilds) ∧
    r.rebuild.2 = if r.rebuilds then [.rebuilt] else [] := by
  cases hr : r.rebuilds with
  | true =>
    obtain ⟨hne, hnone⟩ := Row.rebuilds_iff.1 hr
    rw [Row.rebuild_of_none_voting hne hnone]
    exact ⟨rfl, rfl⟩
  | false =>
    have hvoting : r.sources = [] ∨ ∃ q ∈ r.sources, q.standing = .voting := by
      by_contra hnot
      rw [not_or] at hnot
      exact Bool.eq_false_iff.1 hr (Row.rebuilds_iff.2 ⟨hnot.1, fun x hx hst => hnot.2 ⟨x, hx, hst⟩⟩)
    rw [Row.rebuild_of_voting hvoting]
    exact ⟨(List.map_id _).symm, rfl⟩

theorem Source.rebuiltIf_voting (rebuilt : Bool) (q : Source) :
    (q.rebuiltIf rebuilt).standing = .voting ↔ q.standing = .voting ∨ rebuilt = true := by
  cases rebuilt <;> simp [Source.rebuiltIf]

theorem Source.rebuiltIf_station (rebuilt : Bool) (q : Source) : (q.rebuiltIf rebuilt).station = q.station := by
  cases rebuilt <;> rfl

/-- The records of one source: those of the event that stages 3 and 5 collect for it. -/
theorem sourceRecord_eq (e : Epoch) (axis : Nat) (rebuilt : Bool) (q : Source) (plan : Plan) (v : Verdict) :
    ((q.rebuiltIf rebuilt).score plan v).2.map (VoteEvent.record e axis) =
      sourceRecord e axis rebuilt q ((q.rebuiltIf rebuilt).score plan v).1 := by
  rw [Source.score_events, Source.rebuiltIf_station, sourceRecord]
  by_cases hvoting : q.standing = .voting ∨ rebuilt = true
  · have hst := (Source.rebuiltIf_voting rebuilt q).2 hvoting
    have hnot : ¬(q.standing ≠ .voting ∧ ¬rebuilt = true) := fun h => hvoting.elim h.1 h.2
    simp only [hst, hvoting, hnot, and_true, and_false, ne_eq, not_true_eq_false, if_false]
    split <;> rfl
  · obtain ⟨hne, hre⟩ := not_or.1 hvoting
    obtain rfl : rebuilt = false := by simpa using hre
    simp only [Source.rebuiltIf, Bool.false_eq_true, if_false, hne, and_false, or_false, ne_eq, not_false_eq_true,
      and_true]
    split <;> rfl

/-- The source events of one row, as records (R21). -/
theorem Row.vote_records (r : Row) (plan : Plan) (epoch e : Epoch) (axis : Nat) :
    (r.vote plan epoch).2.map (VoteEvent.record e axis) =
      (if r.rebuilds then [⟨.rowRebuilt, e, none, some (BitVec.ofNat 3 axis), none⟩] else []) ++
        (List.zipWith (sourceRecord e axis r.rebuilds) r.sources (r.vote plan epoch).1.sources).flatten := by
  have hsources : (r.vote plan epoch).1.sources = r.sources.map fun q =>
      ((q.rebuiltIf r.rebuilds).score plan (r.rebuild.1.verdict plan.tol)).1 := by
    rw [Row.vote_settled, r.rebuild_eq.1, List.map_map]
    rfl
  have hevents : (r.vote plan epoch).2 = r.rebuild.2 ++ r.sources.flatMap fun q =>
      ((q.rebuiltIf r.rebuilds).score plan (r.rebuild.1.verdict plan.tol)).2 := by
    show r.rebuild.2 ++ r.rebuild.1.sources.flatMap _ = _
    rw [r.rebuild_eq.1, List.flatMap_map]
    rfl
  rw [hevents, hsources, List.map_append, List.map_flatMap, r.rebuild_eq.2, List.zipWith_map_right, List.zipWith_self,
    ← List.flatMap_def]
  simp only [sourceRecord_eq]
  congr 1
  split <;> rfl

/-! ### The row states (R15) -/

theorem rowStateEventsFrom_eq (e : Epoch) (axis : Nat) {before after : List Row} (h : before.length = after.length) :
    rowStateEventsFrom e axis before after = (List.range before.length).flatMap fun i =>
      if (before.getD i Row.cleared).state ≠ (after.getD i Row.cleared).state ∨
          (before.getD i Row.cleared).stale ≠ (after.getD i Row.cleared).stale
      then [evRowState e (axis + i) (after.getD i Row.cleared).state (after.getD i Row.cleared).stale] else [] := by
  induction before generalizing axis after with
  | nil => rfl
  | cons b bs ih =>
    obtain ⟨a, as, rfl⟩ := List.exists_cons_of_length_eq_add_one h.symm
    rw [rowStateEventsFrom, ih _ (by simpa using h), List.length_cons, List.range_succ_eq_map, List.flatMap_cons,
      List.flatMap_map]
    simp only [List.getD_cons_zero, List.getD_cons_succ, Nat.add_zero, Nat.add_assoc, Nat.add_comm 1]

theorem map_filter_eq_flatMap {α β : Type} (p : α → Bool) (f : α → β) (xs : List α) :
    xs.flatMap (fun x => if p x then [f x] else []) = (xs.filter p).map f := by
  rw [← flatMap_filter, ← List.map_eq_flatMap]

/-! ### The VOTE self-test's cases (R167) -/

/-- FAIL would carry the number of the first case not met. -/
theorem firstFailing_eq_some {p : Plan} {i n : Nat} {cases : List (Row × VoteExpectation)} :
    firstFailing p i cases = some n ↔ ∃ c, cases[n - i]? = some c ∧ i ≤ n ∧ shadowResult p c.1 ≠ c.2 ∧
      ∀ b ∈ cases.take (n - i), shadowResult p b.1 = b.2 := by
  induction cases generalizing i with
  | nil => simp [firstFailing]
  | cons c rest ih =>
    obtain ⟨r, want⟩ := c
    unfold firstFailing
    split
    · next hmet =>
      rw [ih]
      constructor
      · rintro ⟨d, hd, hle, hne, hall⟩
        have hsucc : n - i = (n - (i + 1)) + 1 := by omega
        rw [hsucc]
        refine ⟨d, hd, by omega, hne, fun b hb => ?_⟩
        rcases List.mem_cons.1 hb with rfl | hb
        · exact hmet
        · exact hall b hb
      · rintro ⟨d, hd, hle, hne, hall⟩
        rcases Nat.eq_or_lt_of_le hle with rfl | hlt
        · rw [Nat.sub_self] at hd
          obtain rfl := Option.some.inj hd
          exact absurd hmet hne
        · have hsucc : n - i = (n - (i + 1)) + 1 := by omega
          rw [hsucc] at hd hall
          exact ⟨d, hd, hlt, hne, fun b hb => hall b (List.mem_cons_of_mem _ hb)⟩
    · next hnot =>
      constructor
      · intro h
        obtain rfl := Option.some.inj h
        rw [Nat.sub_self]
        exact ⟨_, rfl, le_rfl, hnot, nofun⟩
      · rintro ⟨d, hd, hle, hne, hall⟩
        rcases Nat.eq_or_lt_of_le hle with rfl | hlt
        · rfl
        · have hsucc : n - i = (n - (i + 1)) + 1 := by omega
          rw [hsucc] at hall
          exact absurd (hall _ List.mem_cons_self) hnot

theorem voteTestOutcome_eq_fail {p : Plan} {n : Nat} : voteTestOutcome p = .fail n ↔ firstFailing p 1 (voteCases p) = some n := by
  unfold voteTestOutcome
  split
  · next m h => simp [h]
  · next h => simp [h]

/-! ### The completion's records in order -/

theorem State.publishedIf_port (s : State) (v : VoteInFlight) : (s.publishedIf v).port = s.port.appendAll
    (if (s.publishedIf v).emulator.state = s.emulator.state then []
      else [evEmulator s.timer.epoch (s.publishedIf v).emulator.state]) := by
  unfold State.publishedIf
  by_cases h : s.member.selfState.votes = true
  · rw [if_pos h, State.publish_port, emulatorEvents]
    exact congrArg _ (if_congr eq_comm rfl rfl)
  · rw [if_neg h, if_pos rfl, LocalPort.appendAll_nil]

theorem State.voteTaken_port (s : State) (v : VoteInFlight) :
    (s.voteTaken v).port = (s.publishedIf v).port.appendAll (s.voteRecords v) := rfl

/-- Settles O29: the lists in order, and the end of the VOTE self-test. -/
theorem voteRecordsStandInOrder : Obligations.VoteRecordsStandInOrder := by
  intro s v hv hrows hvrows
  obtain ⟨hemulator, hline, hfaults⟩ := s.completeVote_blocks v
  have hengine := s.completeVote_engine v
  set done : List EventRecord := if v.testRuns = true ∧ s.tests.runs .vote = true
    then [evTestDone s.timer.epoch .vote .pass] else [] with hdone
  refine ⟨s.completeVote v, if (s.publishedIf v).emulator.state = s.emulator.state then []
      else [evEmulator s.timer.epoch (s.publishedIf v).emulator.state],
    voteEventsFrom s.timer.epoch s.plan v.epoch 0 v.rows,
    rowStateEventsFrom s.timer.epoch 0 s.engine.rows (writeBackRows s.engine.rows (v.voted s.plan)), done,
    exec_voteCompletion hv, ?_, ?_, ?_, ?_, fun hnotest => ⟨?_, ?_⟩, fun htest hruns => ?_, fun n => ?_⟩
  · have htaken : (s.voteTaken v).port = s.port.appendAll
        ((if (s.publishedIf v).emulator.state = s.emulator.state then []
          else [evEmulator s.timer.epoch (s.publishedIf v).emulator.state]) ++
        voteEventsFrom s.timer.epoch s.plan v.epoch 0 v.rows ++
        rowStateEventsFrom s.timer.epoch 0 s.engine.rows (writeBackRows s.engine.rows (v.voted s.plan))) := by
      rw [State.voteTaken_port, State.publishedIf_port, ← LocalPort.appendAll_append, State.voteRecords, List.append_assoc]
    rw [LocalPort.appendAll_append, ← htaken]
    by_cases h : v.testRuns = true ∧ s.tests.runs .vote = true
    · rw [State.completeVote_of_test h.1 h.2, hdone, if_pos h]
      rfl
    · rw [State.completeVote_of_no_test (by simpa [imp_iff_not_or] using h), hdone, if_neg h]
      rfl
  · rw [hemulator]
  · rw [voteEventsFrom_eq, hvrows]
    refine List.flatMap_congr fun a _ => ?_
    rw [Nat.zero_add, Row.vote_records]
    refine congrArg₂ (· ++ ·) (if_congr Row.rebuilds_iff rfl rfl) ?_
    refine congrArg (fun f => (List.zipWith f _ _).flatten) (funext fun x => funext fun y => ?_)
    exact if_congr (and_congr_right' (or_congr_right Row.rebuilds_iff)) rfl
      (if_congr (and_congr_right' (and_congr_right' (not_congr Row.rebuilds_iff))) rfl rfl)
  · rw [hengine, rowStateEventsFrom_eq _ _ (by simp [writeBackRows, VoteInFlight.voted, hrows, hvrows]), hrows]
    simp only [Nat.zero_add]
    rw [← map_filter_eq_flatMap]
    simp only [decide_eq_true_eq]
  · rw [hdone, if_neg]
    rintro ⟨h1, h2⟩
    rcases hnotest with h | h <;> simp_all
  · rw [State.completeVote_of_no_test hnotest]
    unfold State.voteTaken State.writtenBack State.publishedIf
    rw [State.emit_tests]
    split <;> rfl
  · refine ⟨?_, if_pos ⟨htest, hruns⟩, hfaults, hline⟩
    rw [State.completeVote_of_test htest hruns]
    rfl
  · rw [voteTestOutcome_eq_fail, firstFailing_eq_some]

end Sys2Proof.Machine
end

section
/-! SUPPORT. A recognised mark block by block (R46, R119, R165 to R169): what the test step and step 8 leave at the Self-Test Unit,
the Fault Register and the Notice Queue, in either order of the two. -/

namespace Sys2Proof.Machine

/-! ### The held set at step 8 (R129) -/

theorem holds_foldl_set (f : FaultRegister) (ks : List FaultKind) (j : FaultKind) :
    holds (ks.foldl FaultRegister.set f).held j = (holds f.held j || decide (j ∈ ks)) := by
  induction ks generalizing f with
  | nil => simp
  | cons k ks ih => rw [List.foldl_cons, ih, FaultRegister.holds_set]; simp [Bool.or_assoc]

theorem FaultKind.exists_bit : ∀ i < 10, ∃ k : FaultKind, k.bit = i
  | 0, _ => ⟨.lossSin, rfl⟩
  | 1, _ => ⟨.lossCos, rfl⟩
  | 2, _ => ⟨.amplitude, rfl⟩
  | 3, _ => ⟨.excitation, rfl⟩
  | 4, _ => ⟨.tracking, rfl⟩
  | 5, _ => ⟨.selfTest, rfl⟩
  | 6, _ => ⟨.txUnheard, rfl⟩
  | 7, _ => ⟨.duplicateId, rfl⟩
  | 8, _ => ⟨.planMismatch, rfl⟩
  | 9, _ => ⟨.strapRange, rfl⟩

theorem mem_sensorKinds_of_bit {k : FaultKind} (h : k.bit < 5) : k ∈ sensorKinds := by
  cases k with
  | lossSin | lossCos | amplitude | excitation | tracking => decide
  | selfTest | txUnheard | duplicateId | planMismatch | strapRange => exact absurd h (by decide)

theorem holds_heldSensors (ev : CondSet) (f : FaultRegister) (k : FaultKind) :
    holds (heldSensors ev f).held k = (holds f.held k || condHolds ev k) := by
  rw [heldSensors, holds_foldl_set, Bool.eq_iff_iff]
  simp only [Bool.or_eq_true, decide_eq_true_iff, List.mem_filter, Bool.and_eq_true, Bool.not_eq_true']
  have hsensor (h : condHolds ev k = true) : k ∈ sensorKinds :=
    mem_sensorKinds_of_bit (BitVec.lt_of_getLsbD h)
  cases hf : holds f.held k <;> cases he : condHolds ev k <;> simp_all

/-- Step 8 adds to the held set the conditions that are evaluated live (R129). -/
theorem heldSensors_held (ev : CondSet) (f : FaultRegister) : (heldSensors ev f).held = f.held ||| ev.setWidth 10 := by
  refine BitVec.eq_of_getLsbD_eq fun i hi => ?_
  obtain ⟨k, rfl⟩ := FaultKind.exists_bit i hi
  simpa [hi, holds, condHolds] using holds_heldSensors ev f k

theorem foldl_set_flt (f : FaultRegister) (ks : List FaultKind) :
    ks = [] ∨ (ks.foldl FaultRegister.set f).flt = true := by
  induction ks generalizing f with
  | nil => exact .inl rfl
  | cons k ks ih =>
    rcases ih (f.set k) with rfl | h
    · exact .inr rfl
    · exact .inr h

/-- Step 8 asserts FLT where it holds a new kind, and else leaves the register (R129, R131). -/
theorem heldSensors_cases (ev : CondSet) (f : FaultRegister) :
    heldSensors ev f = f ∨ (heldSensors ev f).flt = true ∧ (heldSensors ev f).held ≠ f.held := by
  unfold heldSensors
  rcases hks : sensorKinds.filter (fun k => condHolds ev k && !holds f.held k) with _ | ⟨k, ks⟩
  · exact .inl rfl
  · refine .inr ⟨(foldl_set_flt f _).resolve_left nofun, fun hsame => ?_⟩
    have hk : k ∈ sensorKinds.filter fun k => condHolds ev k && !holds f.held k := by simp [hks]
    have hnew : holds f.held k = false := by simpa using (Bool.and_eq_true_iff.1 (List.mem_filter.1 hk).2).2
    have hheld := holds_foldl_set f (k :: ks) k
    rw [hsame, hnew] at hheld
    simp at hheld

theorem FaultRegister.set_comm (f : FaultRegister) (k j : FaultKind) : (f.set k).set j = (f.set j).set k := by
  simp only [FaultRegister.set, BitVec.or_assoc, BitVec.or_comm k.mask]

/-- Holding SELFTEST and holding the sensor kinds leave the same register in either order (log 7). -/
theorem heldSensors_set_selfTest (ev : CondSet) (f : FaultRegister) :
    heldSensors ev (f.set .selfTest) = (heldSensors ev f).set .selfTest := by
  have hsame : sensorKinds.filter (fun k => condHolds ev k && !holds (f.set .selfTest).held k) =
      sensorKinds.filter fun k => condHolds ev k && !holds f.held k := by
    refine List.filter_congr fun k hk => ?_
    have hne : k ≠ .selfTest := by rintro rfl; exact absurd hk (by decide)
    rw [FaultRegister.holds_set, decide_eq_false hne, Bool.or_false]
  rw [heldSensors, hsame]
  exact List.foldl_hom (fun f : FaultRegister => f.set .selfTest) fun x k => x.set_comm .selfTest k

theorem endFaultsAt_cases (f : FaultRegister) (out : Option (TestCode × TestOutcome)) :
    endFaultsAt f out = f ∨ ∃ c n, out = some (c, .fail n) ∧ endFaultsAt f out = f.set .selfTest := by
  rcases out with _ | ⟨c, _ | _ | n | _⟩
  · exact .inl rfl
  · exact .inl rfl
  · exact .inl rfl
  · exact .inr ⟨c, n, rfl, rfl⟩
  · exact .inl rfl

theorem heldSensors_endFaultsAt (ev : CondSet) (f : FaultRegister) (out : Option (TestCode × TestOutcome)) :
    heldSensors ev (endFaultsAt f out) = endFaultsAt (heldSensors ev f) out := by
  rcases out with _ | ⟨c, _ | _ | n | _⟩
  · rfl
  · rfl
  · rfl
  · exact heldSensors_set_selfTest ev f
  · rfl

/-! ### The test step of a mark, block by block (R165 to R169) -/

/-- What a test step that decides nothing makes of the emulator: PULSE moves the test counter at its marks 1 and 3. -/
def TestRun.stepEmulator (r : TestRun) (e : PulseEmulator) : PulseEmulator :=
  if r.code = .pulse ∧ r.step = 0 then e.moveTest true
  else if r.code = .pulse ∧ r.step = 2 then e.moveTest false
  else e

/-- What it makes of the Sensor Interface: MONITOR rewrites the forced conditions at its even marks. -/
def TestRun.stepSensor (r : TestRun) (x : SensorInterface) : SensorInterface :=
  if r.code = .monitor ∧ (r.step + 1) % 2 = 0 then { x with forced := condMask (monitorCond (r.step + 2)) } else x

theorem State.stepTest_emulator_eq (s : State) (r : TestRun) : (s.stepTest r).emulator = r.stepEmulator s.emulator := by
  unfold State.stepTest TestRun.stepEmulator
  cases hc : r.code with
  | inject | vote => rfl
  | monitor => simp only; split <;> rfl
  | pulse =>
    simp only [true_and, show r.step + 1 = 1 ↔ r.step = 0 by omega, show r.step + 1 = 3 ↔ r.step = 2 by omega]
    split
    · rfl
    · split <;> rfl

theorem TestRun.stepSensor_evaluated (r : TestRun) (x : SensorInterface) : (r.stepSensor x).evaluated = x.evaluated := by
  unfold TestRun.stepSensor
  split <;> rfl

theorem TestCode.endSensor_evaluated (c : TestCode) (x : SensorInterface) : (c.endSensor x).evaluated = x.evaluated := by
  unfold TestCode.endSensor
  split <;> rfl

/-- The three courses of a mark's test step: a test counted by marks ends, it goes on, or there is none. -/
inductive MarkCourse (s : State) (m : MarkInputs) : Prop
  | ends (r : TestRun) (o : TestOutcome) (hr : s.tests.running = some r) (hv : r.code ≠ .vote)
      (hd : testDecision r.code (r.step + 1) m s.emulator.counter s.emulator.perTurn = some o)
      (hout : s.testOutcomeAt m = some (r.code, o))
  | goes (r : TestRun) (hr : s.tests.running = some r) (hv : r.code ≠ .vote)
      (hd : testDecision r.code (r.step + 1) m s.emulator.counter s.emulator.perTurn = none)
      (hout : s.testOutcomeAt m = none)
  | rests (hr : ∀ r ∈ s.tests.running, r.code = .vote) (hout : s.testOutcomeAt m = none)

theorem State.markCourse (s : State) (m : MarkInputs) : MarkCourse s m := by
  cases hr : s.tests.running with
  | none => exact .rests (by simp [hr]) (by simp [State.testOutcomeAt, hr])
  | some r =>
    by_cases hv : r.code = .vote
    · exact .rests (by simp [hr, hv]) (by simp [State.testOutcomeAt, hr, hv, testDecision])
    · cases hd : testDecision r.code (r.step + 1) m s.emulator.counter s.emulator.perTurn with
      | none => exact .goes r hr hv hd (by simp [State.testOutcomeAt, hr, hd])
      | some o => exact .ends r o hr hv hd (by simp [State.testOutcomeAt, hr, hd])

/-- A mark's test step reads the Self-Test Unit and the emulator alone. -/
theorem State.testOutcomeAt_congr {s t : State} (ht : t.tests = s.tests) (he : t.emulator = s.emulator) (m : MarkInputs) :
    t.testOutcomeAt m = s.testOutcomeAt m := by
  simp only [State.testOutcomeAt, ht, he]

theorem State.markSensed_outcome (s : State) (m : MarkInputs) : (s.markSensed m).testOutcomeAt m = s.testOutcomeAt m := by
  obtain ⟨-, -, -, -, -, he, ht, -⟩ := s.markSensed_kept m
  exact State.testOutcomeAt_congr ht he m

/-- A test that ends at a mark, at the blocks that its end touches (R169). -/
theorem State.testAtMark_of_ends {s : State} {m : MarkInputs} {c : TestCode} {o : TestOutcome}
    (hout : s.testOutcomeAt m = some (c, o)) :
    (s.testAtMark m).tests = ⟨none, some ⟨c, o, some s.timer.epoch⟩⟩ ∧
      (s.testAtMark m).sensor = c.endSensor s.sensor ∧ (s.testAtMark m).emulator = c.endEmulator s.emulator := by
  rw [State.testAtMark_eq, hout]
  exact ⟨s.endTest_tests c o, s.endTest_sensor c o, s.endTest_emulator c o⟩

/-- A test that goes on at a mark (R165, R166, R168). -/
theorem State.testAtMark_of_goes {s : State} {m : MarkInputs} {r : TestRun} (hr : s.tests.running = some r)
    (hv : r.code ≠ .vote) (hout : s.testOutcomeAt m = none) :
    (s.testAtMark m).tests = { s.tests with running := some ⟨r.code, r.step + 1, r.remaining - 1⟩ } ∧
      (s.testAtMark m).sensor = r.stepSensor s.sensor ∧ (s.testAtMark m).emulator = r.stepEmulator s.emulator := by
  rw [State.testAtMark_eq, hout, hr]
  simp only [if_neg hv]
  exact ⟨s.stepTest_tests r, s.stepTest_sensor_eq r, s.stepTest_emulator_eq r⟩

/-- A mark with no test counted by marks. -/
theorem State.testAtMark_of_rests {s : State} {m : MarkInputs} (hr : ∀ r ∈ s.tests.running, r.code = .vote) :
    s.testAtMark m = s := by
  unfold State.testAtMark
  split
  · rfl
  · next r h => exact if_pos (hr r h)

/-- A test step moves forced conditions alone at the Sensor Interface. -/
theorem State.testAtMark_evaluated (s : State) (m : MarkInputs) :
    (s.testAtMark m).sensor.evaluated = s.sensor.evaluated := by
  rcases s.markCourse m with ⟨r, o, -, -, -, hout⟩ | ⟨r, hr, hv, -, hout⟩ | ⟨hr, -⟩
  · rw [(State.testAtMark_of_ends hout).2.1, TestCode.endSensor_evaluated]
  · rw [(State.testAtMark_of_goes hr hv hout).2.1, TestRun.stepSensor_evaluated]
  · rw [State.testAtMark_of_rests hr]

/-- Step 8 and the order of the two steps touch none of these blocks. -/
theorem State.markTested_test (s : State) (m : MarkInputs) :
    ∃ x : State, x.tests = s.tests ∧ x.emulator = s.emulator ∧ x.timer.epoch = s.markEpoch ∧
      x.sensor = s.sensor.mark m s.tests.injected s.tests.samplesUnderTest ∧ x.engine = s.engine ∧
      x.testOutcomeAt m = s.testOutcomeAt m ∧
      (s.markTested m).tests = (x.testAtMark m).tests ∧ (s.markTested m).sensor = (x.testAtMark m).sensor ∧
      (s.markTested m).emulator = (x.testAtMark m).emulator ∧ (s.markTested m).engine = (x.testAtMark m).engine := by
  obtain ⟨-, hg, -, -, -, he, ht, hs⟩ := s.markSensed_kept m
  have hepoch : (s.markSensed m).timer.epoch = s.markEpoch := by rw [State.markSensed_timer]
  rw [State.markTested, State.markTestAndFaults_eq]
  split
  · refine ⟨(s.markSensed m).orderChosen m, ht, he, hepoch, hs, hg, State.testOutcomeAt_congr ht he m, ?_⟩
    simp
  · set y := (s.markSensed m).orderChosen m with hy
    have hxt : y.holdSensorFaults.tests = s.tests := y.holdSensorFaults_tests.trans ht
    have hxe : y.holdSensorFaults.emulator = s.emulator := y.holdSensorFaults_emulator.trans he
    exact ⟨y.holdSensorFaults, hxt, hxe, (congrArg EpochTimer.epoch y.holdSensorFaults_timer).trans hepoch,
      y.holdSensorFaults_sensor.trans hs, y.holdSensorFaults_engine.trans hg, State.testOutcomeAt_congr hxt hxe m,
      rfl, rfl, rfl, rfl⟩

theorem State.markTested_of_ends {s : State} {m : MarkInputs} {c : TestCode} {o : TestOutcome}
    (hout : s.testOutcomeAt m = some (c, o)) :
    (s.markTested m).tests = ⟨none, some ⟨c, o, some s.markEpoch⟩⟩ ∧
      (s.markTested m).sensor = c.endSensor (s.sensor.mark m s.tests.injected s.tests.samplesUnderTest) ∧
      (s.markTested m).emulator = c.endEmulator s.emulator := by
  obtain ⟨x, -, hxe, hxn, hxs, -, hxo, ht, hs, he, -⟩ := s.markTested_test m
  obtain ⟨h1, h2, h3⟩ := State.testAtMark_of_ends (hxo.trans hout)
  rw [ht, hs, he, h1, h2, h3, hxe, hxn, hxs]
  exact ⟨rfl, rfl, rfl⟩

theorem State.markTested_of_goes {s : State} {m : MarkInputs} {r : TestRun} (hr : s.tests.running = some r)
    (hv : r.code ≠ .vote) (hout : s.testOutcomeAt m = none) :
    (s.markTested m).tests = { s.tests with running := some ⟨r.code, r.step + 1, r.remaining - 1⟩ } ∧
      (s.markTested m).sensor = r.stepSensor (s.sensor.mark m s.tests.injected s.tests.samplesUnderTest) ∧
      (s.markTested m).emulator = r.stepEmulator s.emulator := by
  obtain ⟨x, hxt, hxe, -, hxs, -, hxo, ht, hs, he, -⟩ := s.markTested_test m
  obtain ⟨h1, h2, h3⟩ := State.testAtMark_of_goes (s := x) (hxt ▸ hr) hv (hxo.trans hout)
  rw [ht, hs, he, h1, h2, h3, hxe, hxt, hxs]
  exact ⟨rfl, rfl, rfl⟩

theorem State.markTested_of_rests {s : State} (m : MarkInputs) (hr : ∀ r ∈ s.tests.running, r.code = .vote) :
    (s.markTested m).tests = s.tests ∧
      (s.markTested m).sensor = s.sensor.mark m s.tests.injected s.tests.samplesUnderTest ∧
      (s.markTested m).emulator = s.emulator := by
  obtain ⟨x, hxt, hxe, -, hxs, -, -, ht, hs, he, -⟩ := s.markTested_test m
  have hx : x.testAtMark m = x := State.testAtMark_of_rests (by rwa [hxt])
  rw [ht, hs, he, hx]
  exact ⟨hxt, hxs, hxe⟩

/-! ### The Fault Register and the Notice Queue after both steps -/

/-- The conditions that a mark evaluates (R120, R121). -/
def State.markEvaluated (s : State) (m : MarkInputs) : CondSet :=
  (s.sensor.mark m s.tests.injected s.tests.samplesUnderTest).evaluated

/-- The Fault Register after a mark. -/
def State.markFaults (s : State) (m : MarkInputs) : FaultRegister :=
  heldSensors (s.markEvaluated m) (endFaultsAt s.faults (s.testOutcomeAt m))

/-- What a mark posts, in the order that the free choice gives. -/
def State.markPosts (s : State) (m : MarkInputs) : List (NoticeKind × Byte) :=
  if (s.markSensed m).testFirst m then
    endPostsAt s.member.selfState s.faults (s.testOutcomeAt m) ++
      faultPosts s.member.selfState (endFaultsAt s.faults (s.testOutcomeAt m)).held (s.markFaults m).held
  else
    faultPosts s.member.selfState s.faults.held (heldSensors (s.markEvaluated m) s.faults).held ++
      endPostsAt s.member.selfState (heldSensors (s.markEvaluated m) s.faults) (s.testOutcomeAt m)

/-- What the blocks post turns on ACTIVE alone, which a withdrawal completed at the mark leaves as it was. -/
theorem State.markSensed_active (s : State) (m : MarkInputs) :
    (s.markSensed m).member.selfState = .active ↔ s.member.selfState = .active := by
  rw [State.markSensed_member]
  split
  · next hl => simp [State.markTakesLeave_leaving hl]
  · rfl

theorem faultPosts_congr {self self' : SelfState} (h : self' = .active ↔ self = .active) (before after : FaultSet) :
    faultPosts self' before after = faultPosts self before after := by
  simp only [faultPosts, h]

theorem endPostsAt_congr {self self' : SelfState} (h : self' = .active ↔ self = .active) (f : FaultRegister)
    (out : Option (TestCode × TestOutcome)) : endPostsAt self' f out = endPostsAt self f out := by
  rcases out with _ | ⟨c, o⟩
  · rfl
  · simp only [endPostsAt, endPosts, h, faultPosts_congr h]

/-- The Fault Register and the line after the test step and step 8. -/
theorem State.markTested_faults_line (s : State) (m : MarkInputs) : (s.markTested m).faults = s.markFaults m ∧
    (s.markTested m).line =
      (s.line.atMark (s.timer.position.noClose || s.member.selfState == SelfState.lockout)).posted (s.markPosts m) := by
  obtain ⟨-, -, hf, -, -, he, ht, hs⟩ := s.markSensed_kept m
  have hactive := s.markSensed_active m
  have hline := s.markSensed_line m
  have hev : (s.markSensed m).sensor.evaluated = s.markEvaluated m := congrArg SensorInterface.evaluated hs
  rw [State.markTested, State.markTestAndFaults_eq, State.markPosts]
  set x := s.markSensed m
  set y := x.orderChosen m
  have hyf : y.faults = s.faults := hf
  have hyev : y.sensor.evaluated = s.markEvaluated m := hev
  have hyline : y.line = x.line := rfl
  have hself : y.member.selfState = .active ↔ s.member.selfState = .active := hactive
  split
  · have hout : y.testOutcomeAt m = s.testOutcomeAt m := State.testOutcomeAt_congr ht he m
    have htested : (y.testAtMark m).faults = endFaultsAt s.faults (s.testOutcomeAt m) := by
      rw [State.testAtMark_faults, hyf, hout]
    have hkeeps : (y.testAtMark m).sensor.evaluated = s.markEvaluated m := (y.testAtMark_evaluated m).trans hyev
    refine ⟨?_, ?_⟩
    · rw [State.holdSensorFaults_faults_eq, htested, hkeeps, State.markFaults]
    · rw [State.holdSensorFaults_line, htested, hkeeps, State.testAtMark_line, State.testAtMark_member, hout, hyf,
        faultPosts_congr hself, endPostsAt_congr hself, hyline, hline, ← LineController.posted_append, State.markFaults]
  · have hout : y.holdSensorFaults.testOutcomeAt m = s.testOutcomeAt m :=
      State.testOutcomeAt_congr (y.holdSensorFaults_tests.trans ht) (y.holdSensorFaults_emulator.trans he) m
    have hheld : y.holdSensorFaults.faults = heldSensors (s.markEvaluated m) s.faults := by
      rw [State.holdSensorFaults_faults_eq, hyf, hyev]
    refine ⟨?_, ?_⟩
    · rw [State.testAtMark_faults, hout, hheld, State.markFaults, heldSensors_endFaultsAt]
    · rw [State.testAtMark_line, State.holdSensorFaults_line, State.holdSensorFaults_member, hout, hheld, hyf, hyev,
        faultPosts_congr hself, endPostsAt_congr hself, hyline, hline, ← LineController.posted_append]

end Sys2Proof.Machine
end

section
/-! SUPPORT. What a recognised mark leaves at every block, its records and its postings (R46, R48, R92, R128, R129, R132, R145,
R169). -/

namespace Sys2Proof.Machine

/-! ### What a mark posts (R105, R132, R169) -/

/-- The entry that a posting of a block leaves (R105). -/
theorem exists_postNotice {k : NoticeKind} (hk : k ≠ .user) (q : List NoticeEntry) (arg : Byte) :
    ∃ e ∈ postNotice q k arg, e.kind = k ∧ e.argument = arg ∧ (k ≠ .fault → e.rounds = 0) := by
  by_cases h : ∃ e ∈ q, e.kind = k
  · obtain ⟨e, he, rfl⟩ := h
    rw [postNotice_of_pending ⟨e, he, rfl⟩]
    refine ⟨e.repost arg, List.mem_map.2 ⟨e, he, if_pos rfl⟩, ?_⟩
    rw [NoticeEntry.repost_eq hk]
    exact ⟨rfl, rfl, fun hf => if_neg hf⟩
  · rw [postNotice_of_none (by simpa using h)]
    exact ⟨⟨k, arg, 0, false, false⟩, by simp, rfl, rfl, fun _ => rfl⟩

/-- After several postings the last of a kind is the one whose argument is pending. -/
theorem exists_postAll {k : NoticeKind} (hk : k ≠ .user) {arg : Byte} (q : List NoticeEntry)
    {posts earlier : List (NoticeKind × Byte)} (h : posts.filter (fun p => p.1 = k) = earlier ++ [(k, arg)]) :
    ∃ e ∈ postAll q posts, e.kind = k ∧ e.argument = arg ∧ (k ≠ .fault → e.rounds = 0) := by
  induction posts using List.reverseRecOn with
  | nil => simp at h
  | append_singleton ps p ih =>
    rw [postAll_append]
    by_cases hp : p.1 = k
    · rw [List.filter_append, List.filter_cons_of_pos (by simpa using hp), List.filter_nil] at h
      obtain ⟨-, hlast⟩ := List.append_inj' h rfl
      obtain rfl : p = (k, arg) := by simpa using hlast
      exact exists_postNotice hk _ _
    · rw [List.filter_append, List.filter_cons_of_neg (by simpa using hp), List.filter_nil, List.append_nil] at h
      obtain ⟨e, he, hkind, harg, hrounds⟩ := ih h
      exact ⟨e, mem_postNotice_of_ne he (by rw [hkind]; exact Ne.symm hp), hkind, harg, hrounds⟩

theorem faultPosts_kind {self : SelfState} {before after : FaultSet} {p : NoticeKind × Byte}
    (h : p ∈ faultPosts self before after) : p.1 = .fault := by
  unfold faultPosts at h
  split at h <;> simp_all

theorem faultPosts_filter (self : SelfState) (before after : FaultSet) (k : NoticeKind) :
    (faultPosts self before after).filter (fun p => p.1 = k) = if k = .fault then faultPosts self before after else [] := by
  split
  · next hk => exact List.filter_eq_self.2 fun p hp => by simpa [hk] using faultPosts_kind hp
  · next hk => exact List.filter_eq_nil_iff.2 fun p hp => by simpa [faultPosts_kind hp] using Ne.symm hk

/-- The TEST that a test's end posts. -/
def testPosts (self : SelfState) : Option (TestCode × TestOutcome) → List (NoticeKind × Byte)
  | some (c, o) => if c.marksSample ∧ self = .active then [(.test, testEndArgument c o)] else []
  | none => []

theorem testPosts_kind {self : SelfState} {out : Option (TestCode × TestOutcome)} {p : NoticeKind × Byte}
    (h : p ∈ testPosts self out) : p.1 = .test := by
  unfold testPosts at h
  repeat' split at h
  all_goals simp_all

theorem testPosts_filter (self : SelfState) (out : Option (TestCode × TestOutcome)) (k : NoticeKind) :
    (testPosts self out).filter (fun p => p.1 = k) = if k = .test then testPosts self out else [] := by
  split
  · next hk => exact List.filter_eq_self.2 fun p hp => by simpa [hk] using testPosts_kind hp
  · next hk => exact List.filter_eq_nil_iff.2 fun p hp => by simpa [testPosts_kind hp] using Ne.symm hk

theorem endPostsAt_eq (self : SelfState) (f : FaultRegister) (out : Option (TestCode × TestOutcome)) :
    endPostsAt self f out = testPosts self out ++ faultPosts self f.held (endFaultsAt f out).held := by
  rcases out with _ | ⟨c, o⟩
  · simp [endPostsAt, testPosts, endFaultsAt]
  · rfl

theorem faultPosts_of_not_active {self : SelfState} (h : self ≠ .active) (before after : FaultSet) :
    faultPosts self before after = [] := faultPosts_of_quiet (.inl h)

theorem testPosts_of_not_active {self : SelfState} (h : self ≠ .active) (out : Option (TestCode × TestOutcome)) :
    testPosts self out = [] := by
  unfold testPosts
  split
  · exact if_neg fun hc => h hc.2
  · rfl

/-- What a mark posts of each kind: TEST for the end of a test, and FAULT for two growths of the held set at most. -/
theorem State.markPosts_filter (s : State) (m : MarkInputs) :
    (s.markPosts m).filter (fun p => p.1 = .test) = testPosts s.member.selfState (s.testOutcomeAt m) ∧
    ∃ u v : FaultSet, (s.markFaults m).held = s.faults.held ||| u ||| v ∧
      (s.markPosts m).filter (fun p => p.1 = .fault) =
        faultPosts s.member.selfState s.faults.held (s.faults.held ||| u) ++
          faultPosts s.member.selfState (s.faults.held ||| u) (s.faults.held ||| u ||| v) := by
  have hend (f : FaultRegister) : ∃ u, (endFaultsAt f (s.testOutcomeAt m)).held = f.held ||| u := by
    rcases endFaultsAt_cases f (s.testOutcomeAt m) with h | ⟨-, -, -, h⟩ <;> rw [h]
    · exact ⟨0, by simp⟩
    · exact ⟨_, rfl⟩
  have hswap := heldSensors_endFaultsAt (s.markEvaluated m) s.faults (s.testOutcomeAt m)
  have hlater := heldSensors_held (s.markEvaluated m) (endFaultsAt s.faults (s.testOutcomeAt m))
  have hearlier := heldSensors_held (s.markEvaluated m) s.faults
  simp only [State.markPosts, State.markFaults, endPostsAt_eq]
  split
  · obtain ⟨u, hu⟩ := hend s.faults
    refine ⟨by simp [List.filter_append, faultPosts_filter, testPosts_filter], u, _, by rw [hlater, hu], ?_⟩
    simp [List.filter_append, faultPosts_filter, testPosts_filter, hlater, hu]
  · obtain ⟨v, hv⟩ := hend (heldSensors (s.markEvaluated m) s.faults)
    refine ⟨by simp [List.filter_append, faultPosts_filter, testPosts_filter], _, v, by rw [hswap, hv, hearlier], ?_⟩
    simp [List.filter_append, faultPosts_filter, testPosts_filter, hearlier, hv]

theorem State.markPosts_kind {s : State} {m : MarkInputs} {p : NoticeKind × Byte} (h : p ∈ s.markPosts m) :
    p.1 = .fault ∨ p.1 = .test := by
  simp only [State.markPosts, endPostsAt_eq] at h
  split at h
  · rcases List.mem_append.1 h with h | h
    · rcases List.mem_append.1 h with h | h
      · exact .inr (testPosts_kind h)
      · exact .inl (faultPosts_kind h)
    · exact .inl (faultPosts_kind h)
  · rcases List.mem_append.1 h with h | h
    · exact .inl (faultPosts_kind h)
    · rcases List.mem_append.1 h with h | h
      · exact .inr (testPosts_kind h)
      · exact .inl (faultPosts_kind h)

theorem State.markPosts_of_not_active {s : State} (h : s.member.selfState ≠ .active) (m : MarkInputs) :
    s.markPosts m = [] := by
  simp [State.markPosts, endPostsAt_eq, faultPosts_of_not_active h, testPosts_of_not_active h]

theorem reportedPart_between {a u v : FaultSet} (h : reportedPart (a ||| u ||| v) = reportedPart a) :
    reportedPart (a ||| u) = reportedPart a := by
  refine BitVec.eq_of_getLsbD_eq fun i hi => ?_
  have hbit := congrArg (fun x : ReportedSet => x.getLsbD i) h
  simp only [reportedPart, BitVec.getLsbD_setWidth, BitVec.getLsbD_or] at hbit ⊢
  cases ha : a.getLsbD i <;> cases hu : u.getLsbD i <;> simp_all

/-- Two growths of the held set in ACTIVE post nothing where the reported part stays, and else FAULT with the final part last. -/
theorem faultPosts_chain (a u v : FaultSet) :
    (reportedPart (a ||| u ||| v) = reportedPart a →
      faultPosts .active a (a ||| u) ++ faultPosts .active (a ||| u) (a ||| u ||| v) = []) ∧
    (reportedPart (a ||| u ||| v) ≠ reportedPart a → ∃ earlier,
      faultPosts .active a (a ||| u) ++ faultPosts .active (a ||| u) (a ||| u ||| v) =
        earlier ++ [(.fault, (reportedPart (a ||| u ||| v)).setWidth 8)] ∧ earlier.length ≤ 1) := by
  refine ⟨fun h => ?_, fun h => ?_⟩
  · have hmid := reportedPart_between h
    simp [faultPosts, h, hmid]
  · by_cases hmid : reportedPart (a ||| u) = reportedPart (a ||| u ||| v)
    · refine ⟨[], ?_, by simp⟩
      simp [faultPosts, faultArgument, hmid, h.symm]
    · refine ⟨faultPosts .active a (a ||| u), ?_, ?_⟩
      · simp [faultPosts, faultArgument, hmid]
      · unfold faultPosts
        split <;> simp

end Sys2Proof.Machine
end

section
/-! SUPPORT. What a recognised mark leaves at every block, and its records (R46, R48, R54, R92, R124, R129, R145, R169). -/

namespace Sys2Proof.Machine

/-! ### The blocks after a mark -/

theorem exec_markRecognised {s : State} (h : s.stretchTaken = false) (m : MarkInputs) :
    exec (.markRecognised m) s = .next (s.mark m) :=
  congrArg Host.Outcome.next (if_neg (by simp [h]))

theorem State.coldStarts_not_leave {s : State} (h : s.coldStarts = true) : s.markTakesLeave = false := by
  rw [Bool.eq_false_iff]
  intro hl
  have hself := (s.coldStarts_iff.1 h).2
  rw [State.markTakesLeave_leaving hl] at hself
  cases hself

/-- The Epoch Timer after a mark: a cold start arms the deadline too (R46, R48, R57, R58, R92). -/
theorem State.mark_timer (s : State) (m : MarkInputs) : (s.mark m).timer = { s.timer with
    epoch := s.markEpoch
    markSeen := true
    origin := some (s.clock - 12)
    position := if s.member.selfState = SelfState.lockout then .none else .mark
    roundOpen := false
    deadline := if s.coldStarts then some (s.deadlineFrom (s.clock - 12)) else s.markDeadline
    listenTimer := 0
    epochLength := s.markLength
    selfMarked := (m.drove || s.line.markDrive.isDriving) && s.member.selfState != SelfState.lockout } := by
  have htested : (s.markTested m).timer = (s.markSensed m).timer := (s.markTested_kept m).2.1
  have horigin : (s.markTested m).timer.origin = some (s.clock - 12) := by rw [htested, s.markSensed_timer]
  rw [State.mark_eq, State.emitTogether_timer, State.markJoined]
  split
  · rw [State.enterJoining_timer, State.armed, horigin, htested, s.markSensed_timer,
      State.deadlineFrom_of_strapped (s.mark_strapped_tested m)]
    rfl
  · rw [htested, s.markSensed_timer]

theorem State.mark_epoch (s : State) (m : MarkInputs) : (s.mark m).timer.epoch = s.markEpoch := by rw [State.mark_timer]

/-- The members after a mark: JOINING by a cold start, WITHDRAWN by a LEAVE taken, or as they were (R92, R97). -/
theorem State.mark_member (s : State) (m : MarkInputs) : (s.mark m).member =
    if s.coldStarts then { s.member with
      selfState := .joining, listenRun := 0, mismatchRun := 0, joinRun := 0, joinEpochs := 0 }
    else if s.markTakesLeave then { s.member with selfState := .withdrawn } else s.member := by
  have htested : (s.markTested m).member = (s.markSensed m).member := (s.markTested_kept m).2.2.1
  rw [State.mark_eq, State.emitTogether_member, State.markJoined]
  split
  · next hc =>
    have hself := (s.coldStarts_iff.1 hc).2
    rw [State.enterJoining_member, htested, s.markSensed_member, State.coldStarts_not_leave hc]
    simp [hself]
  · rw [htested, s.markSensed_member]

/-- The line after a mark: the epoch's end, and what the mark posts; the deadline that a cold start arms lies ahead (R47). -/
theorem State.mark_line (s : State) (m : MarkInputs) : (s.mark m).line =
    (s.line.atMark (s.timer.position.noClose || s.member.selfState == SelfState.lockout)).posted (s.markPosts m) := by
  rw [← (s.markTested_faults_line m).2, State.mark_eq, State.emitTogether_line, State.markJoined]
  split
  · obtain ⟨hclock, htimer, -⟩ := s.markTested_kept m
    have horigin : (s.markTested m).timer.origin = some (s.clock - 12) := by rw [htimer, s.markSensed_timer]
    rw [(s.markTested m).enterJoining_blocks.1, ← State.armDeadline_line,
      State.armDeadline_line_of_mark (by rw [horigin, hclock])]
  · rfl

theorem State.mark_faults (s : State) (m : MarkInputs) : (s.mark m).faults = s.markFaults m := by
  rw [← (s.markTested_faults_line m).1, State.mark_eq, State.emitTogether_faults, State.markJoined]
  split
  · rw [State.enterJoining_faults]
  · rfl

theorem State.mark_emulator (s : State) (m : MarkInputs) : (s.mark m).emulator = (s.markTested m).emulator := by
  rw [State.mark_eq, State.emitTogether_emulator, State.markJoined]
  split
  · exact (s.markTested m).enterJoining_kept.2
  · rfl

theorem State.mark_store_clock (s : State) (m : MarkInputs) : (s.mark m).store = s.store ∧ (s.mark m).clock = s.clock := by
  obtain ⟨hclock, -, -, hstore, -⟩ := s.markTested_kept m
  rw [State.mark_eq, State.emitTogether_store, State.emitTogether_clock, State.markJoined]
  split
  · rw [State.enterJoining_store, State.enterJoining_clock]
    exact ⟨hstore, hclock⟩
  · exact ⟨hstore, hclock⟩

/-- Without a cold start the sensor and the tests are as the mark's own steps leave them. -/
theorem State.mark_of_not_cold {s : State} (h : s.coldStarts = false) (m : MarkInputs) :
    (s.mark m).sensor = (s.markTested m).sensor ∧ (s.mark m).tests = (s.markTested m).tests := by
  rw [State.mark_eq, State.emitTogether_sensor, State.emitTogether_tests, State.markJoined, h]
  exact ⟨rfl, rfl⟩

/-- A cold start realigns the Converter and aborts INJECT and MONITOR after those steps (R92, R124, R170). -/
theorem State.mark_of_cold {s : State} (h : s.coldStarts = true) (m : MarkInputs) :
    (s.mark m).sensor = { (s.markTested m).sensor with
      excitation := some (s.clock - 12)
      conv := .acquire
      acqCount := 0
      window := []
      forced := if (s.markTested m).tests.runs .monitor then 0 else (s.markTested m).sensor.forced } ∧
    (s.mark m).tests = ((s.markTested m).abortTest .state).tests := by
  have horigin : (s.markTested m).timer.origin = some (s.clock - 12) := by
    rw [(s.markTested_kept m).2.1, s.markSensed_timer]
  obtain ⟨-, hsensor, htests, -⟩ := (s.markTested m).enterJoining_blocks
  rw [State.mark_eq, State.emitTogether_sensor, State.emitTogether_tests, State.markJoined, h, if_pos rfl, hsensor, htests,
    horigin]
  exact ⟨rfl, rfl⟩

/-! ### The records of a mark (R145) -/

/-- The FAULT_HELD of step 8, in the order of R129. -/
def State.markHeldEvents (s : State) (m : MarkInputs) : List EventRecord :=
  (sensorKinds.filter fun k => condHolds (s.markEvaluated m) k && !holds s.faults.held k).map (evFaultHeld s.markEpoch)

/-- The TEST_DONE of a test that ends at a mark. -/
def State.markDoneEvents (s : State) (m : MarkInputs) : List EventRecord :=
  match s.testOutcomeAt m with
  | some (c, o) => [evTestDone s.markEpoch c o]
  | none => []

/-- The FAULT_HELD of a test that fails at a mark. -/
def State.markFailEvents (s : State) (m : MarkInputs) : List EventRecord :=
  match s.testOutcomeAt m with
  | some (_, .fail _) => faultEvents s.faults s.markEpoch .selfTest
  | _ => []

/-- The STATION_STATE of a cold start. -/
def State.markJoinEvents (s : State) : List EventRecord :=
  if s.coldStarts then [evStationState s.markEpoch .joining] else []

/-- The TEST_DONE of the abort of a cold start. -/
def State.markAbortEvents (s : State) (m : MarkInputs) : List EventRecord :=
  if s.coldStarts then
    match (s.markTested m).tests.running with
    | some r => if r.code = .inject ∨ r.code = .monitor then [evTestDone s.markEpoch r.code (.aborted .state)] else []
    | none => []
  else []

theorem State.markBlocks_eq (s : State) (m : MarkInputs) : s.markBlocks m =
    [s.cutEvents, s.withdrawnAtMark.1, s.markHeldEvents m, s.markDoneEvents m ++ s.markFailEvents m,
      s.markJoinEvents ++ s.markAbortEvents m] := by
  obtain ⟨-, -, hf, -, -, -, -, hs⟩ := s.markSensed_kept m
  have hepoch : (s.markSensed m).timer.epoch = s.markEpoch := by rw [State.markSensed_timer]
  have htested : (s.markTested m).timer.epoch = s.markEpoch := by rw [(s.markTested_kept m).2.1, hepoch]
  have hheld : (s.markSensed m).sensorFaultEvents = s.markHeldEvents m := by
    unfold State.sensorFaultEvents State.newSensorKinds State.markHeldEvents State.markEvaluated
    rw [hepoch, hf, hs]
  have hdone : (s.markSensed m).testEventsAt m = s.markDoneEvents m ++ s.markFailEvents m := by
    unfold State.testEventsAt State.markDoneEvents State.markFailEvents
    rw [s.markSensed_outcome]
    rcases s.testOutcomeAt m with _ | ⟨c, o⟩
    · rfl
    · cases o <;> simp [State.endTestEvents, hepoch, hf]
  have hjoin : (if s.coldStarts then (s.markTested m).joiningEvents else []) =
      s.markJoinEvents ++ s.markAbortEvents m := by
    unfold State.markJoinEvents State.markAbortEvents
    split
    · rw [State.joiningEvents_eq, htested]; rfl
    · rfl
  rw [State.markBlocks, hheld, hdone, hjoin]

/-- The records of a mark by kind. -/
theorem State.markBlocks_filter (s : State) (m : MarkInputs) (k : EventKind) :
    (s.markBlocks m).flatten.filter (fun e => e.kind = k) =
      (if EventKind.epochCut = k then s.cutEvents else []) ++
      ((if EventKind.stationState = k then s.withdrawnAtMark.1 else []) ++
      ((if EventKind.faultHeld = k then s.markHeldEvents m else []) ++
      ((if EventKind.testDone = k then s.markDoneEvents m else []) ++
      ((if EventKind.faultHeld = k then s.markFailEvents m else []) ++
      ((if EventKind.stationState = k then s.markJoinEvents else []) ++
        if EventKind.testDone = k then s.markAbortEvents m else []))))) := by
  have hcut : ∀ e ∈ s.cutEvents, e.kind = .epochCut := by
    unfold State.cutEvents; split <;> simp [evPlain]
  have hwithdrawn : ∀ e ∈ s.withdrawnAtMark.1, e.kind = .stationState := by
    unfold State.withdrawnAtMark; split <;> simp [evStationState]
  have hheld : ∀ e ∈ s.markHeldEvents m, e.kind = .faultHeld := by
    intro e he
    obtain ⟨k, -, rfl⟩ := List.mem_map.1 he
    rfl
  have hdone : ∀ e ∈ s.markDoneEvents m, e.kind = .testDone := by
    unfold State.markDoneEvents; split <;> simp [evTestDone]
  have hfail : ∀ e ∈ s.markFailEvents m, e.kind = .faultHeld := by
    unfold State.markFailEvents faultEvents; repeat' split
    all_goals simp [evFaultHeld]
  have hjoin : ∀ e ∈ s.markJoinEvents, e.kind = .stationState := by
    unfold State.markJoinEvents; split <;> simp [evStationState]
  have habort : ∀ e ∈ s.markAbortEvents m, e.kind = .testDone := by
    unfold State.markAbortEvents; repeat' split
    all_goals simp [evTestDone]
  simp only [State.markBlocks_eq, List.flatten_cons, List.flatten_nil, List.append_nil, List.filter_append,
    filter_kind_eq hcut, filter_kind_eq hwithdrawn, filter_kind_eq hheld, filter_kind_eq hdone, filter_kind_eq hfail,
    filter_kind_eq hjoin, filter_kind_eq habort, List.append_assoc]

theorem State.markBlocks_lengths (s : State) (m : MarkInputs) :
    s.cutEvents.length ≤ 1 ∧ s.withdrawnAtMark.1.length ≤ 1 ∧ (s.markHeldEvents m).length ≤ 5 ∧
      (s.markDoneEvents m).length ≤ 1 ∧ (s.markFailEvents m).length ≤ 1 ∧ s.markJoinEvents.length ≤ 1 ∧
      (s.markAbortEvents m).length ≤ 1 := by
  refine ⟨?_, ?_, ?_, ?_, ?_, ?_, ?_⟩
  · unfold State.cutEvents; split <;> simp
  · unfold State.withdrawnAtMark; split <;> simp
  · rw [State.markHeldEvents, List.length_map]
    exact (List.length_filter_le ..).trans (by decide)
  · unfold State.markDoneEvents; split <;> simp
  · unfold State.markFailEvents faultEvents; repeat' split
    all_goals simp
  · unfold State.markJoinEvents; split <;> simp
  · unfold State.markAbortEvents; repeat' split
    all_goals simp

/-- With room, the records of a mark stand behind the history, those of each block in their order (R145). -/
theorem State.mark_events {s : State} (hroom : s.port.events.length ≤ 20) (m : MarkInputs) :
    ∃ new, (s.mark m).port.events = s.port.events ++ new ∧ new.Perm (s.markBlocks m).flatten ∧
      ∀ b ∈ s.markBlocks m, b.Sublist new := by
  obtain ⟨h1, h2, h3, h4, h5, h6, h7⟩ := s.markBlocks_lengths m
  have hlength : (s.markBlocks m).flatten.length ≤ 11 := by
    rw [State.markBlocks_eq]
    simp only [List.flatten_cons, List.flatten_nil, List.length_append, List.length_nil]
    omega
  have hport := s.markJoined_port m
  obtain ⟨new, hnew, hrest⟩ := (s.markJoined m).emitTogether_events (s.markBlocks m) (by rw [hport]; omega)
  exact ⟨new, by rw [State.mark_eq, hnew, hport], hrest⟩

end Sys2Proof.Machine
end

section
/-! SUPPORT. The epoch that a mark ends and the one it starts: EPOCH_CUT and the schedule events after a mark (R51, R54, R55). -/

namespace Sys2Proof.Machine

theorem State.cutEvents_of_slot {s : State} (h : ∃ k, s.timer.position = .slot k) :
    s.cutEvents = [evPlain .epochCut s.timer.epoch] := by
  obtain ⟨k, hk⟩ := h
  rw [State.cutEvents, hk]

theorem State.cutEvents_of_not_slot {s : State} (h : ∀ k, s.timer.position ≠ .slot k) : s.cutEvents = [] := by
  unfold State.cutEvents
  split
  · next k hk => exact absurd hk (h k)
  all_goals rfl

/-- The records of one kind that a mark appends, where it appends at most one of the kind. -/
theorem State.mark_filter {s : State} {m : MarkInputs} {new es : List EventRecord} {k : EventKind}
    (hperm : new.Perm (s.markBlocks m).flatten)
    (hes : (s.markBlocks m).flatten.filter (fun e => e.kind = k) = es) (hone : es.length ≤ 1) :
    new.filter (fun e => e.kind = k) = es := by
  rw [filter_of_perm hperm _ (by rw [hes]; exact hone), hes]

/-- No schedule event of the ended epoch is raised after the mark: the new origin lies 12 bit times back (R51). -/
theorem State.mark_unreached (s : State) (m : MarkInputs) {time : Nat} (h : 12 < time) : (s.mark m).reached time = false := by
  refine State.reached_after_mark _ _ ?_ h
  rw [State.mark_timer, (s.mark_store_clock m).2]

/-- Settles O12: the records by kind, and the schedule events that come before their times. -/
theorem markInSlotCutsEpoch : Obligations.MarkInSlotCutsEpoch := by
  intro m s hfree hroom
  obtain ⟨new, hnew, hperm, -⟩ := s.mark_events hroom m
  have hcut : (s.markBlocks m).flatten.filter (fun e => e.kind = .epochCut) = s.cutEvents := by
    rw [State.markBlocks_filter]; simp
  have hnewcut := State.mark_filter hperm hcut (s.markBlocks_lengths m).1
  have hline := s.mark_line m
  refine ⟨s.mark m, new, exec_markRecognised hfree m, hnew, fun hslot => ?_, fun hslot => ?_, ?_, ?_, s.mark_engine m,
    fun k => ⟨?_, ?_⟩, ?_, fun j => ⟨?_, ?_⟩⟩
  · rw [hnewcut, State.cutEvents_of_slot hslot]
  · rw [hnewcut, State.cutEvents_of_not_slot hslot]
  · rw [hline]; rfl
  · rw [hline]; rfl
  · exact exec_slotBegin_of_not (.inr (s.mark_unreached m (by rw [slotTime_eq]; omega)))
  · exact exec_slotEnd_of_not (.inr (s.mark_unreached m (by rw [slotTime_eq]; omega)))
  · exact exec_close_of_not (.inr (s.mark_unreached m (by unfold closeTime; rw [slotTime_eq]; omega)))
  · exact exec_roundBegin_of_not (.inr (s.mark_unreached m (by rw [roundTime_eq]; omega)))
  · exact exec_roundEnd_of_not (.inr (s.mark_unreached m (by rw [roundTime_eq]; omega)))

end Sys2Proof.Machine
end

section
/-! SUPPORT. A recognised mark at the Epoch Timer, the Line Controller, the Notice Queue and the Membership Unit (R44 to R46, R57,
R58, R74, R97, R108, R132, R169). -/

namespace Sys2Proof.Machine

/-- The self states in which a mark completes a withdrawal: LEAVING, by a LEAVE whose frame was completed (R97, R108). -/
theorem State.markTakesLeave_iff (s : State) : s.markTakesLeave = true ↔
    s.member.selfState = .leaving ∧ s.line.noticeSend = .completed ∧
      ∃ e ∈ s.line.notices, e.kind = .leave ∧ e.inFlight = true ∧ e.replaced = false := by
  simp only [State.markTakesLeave, Bool.and_eq_true, beq_iff_eq, leaveTaken_iff]
  tauto

/-- The Notice Queue that a mark leaves before it posts (R108, R55). -/
theorem LineController.atMark_notices (l : LineController) (noClose : Bool) : (l.atMark noClose).notices =
    if l.noticeSend = .completed
      then l.notices.filterMap fun e =>
        if e.inFlight = false then some e
        else if e.replaced then some { e with rounds := 0, inFlight := false, replaced := false } else none
      else l.notices.map fun e => { e with inFlight := false, replaced := false } := by
  refine if_congr Iff.rfl (List.filterMap_congr fun e _ => ?_) rfl
  cases e.inFlight <;> rfl

/-- The deadline that a mark leaves in JOINING, ACTIVE and LEAVING (R48). -/
theorem State.mark_deadline {s : State} {m : MarkInputs} (h : (s.mark m).member.selfState.sends = true) :
    (s.mark m).timer.deadline = some (s.clock - 12 + s.plan.period + 8 * s.member.ownStation.toNat) := by
  rw [State.mark_timer, ← State.deadlineFrom_eq]
  rw [State.mark_member] at h
  by_cases hc : s.coldStarts = true
  · exact if_pos hc
  · rw [if_neg hc] at h
    by_cases hl : s.markTakesLeave = true
    · rw [if_pos hl] at h
      cases h
    · rw [if_neg hl] at h
      simp only [if_neg hc, State.markDeadline, if_neg hl, if_pos h]

/-- What a mark posts in ACTIVE of TEST, told from the tests before it and after it (R169). -/
theorem State.mark_testPosts {s : State} (m : MarkInputs) (h : s.member.selfState = .active) :
    (s.markPosts m).filter (fun p => p.1 = .test) =
      match s.tests.running, (s.mark m).tests.running, (s.mark m).tests.result with
      | some r, none, some e => if r.code = .inject ∨ r.code = .monitor
        then [(.test, BitVec.ofNat 8 (r.code.code + 8 + 16 * e.outcome.code))] else []
      | _, _, _ => [] := by
  have hcold : s.coldStarts = false := by simp [State.coldStarts, h]
  rw [(s.markPosts_filter m).1, (State.mark_of_not_cold hcold m).2, h]
  rcases s.markCourse m with ⟨r, o, hr, -, -, hout⟩ | ⟨r, hr, hv, -, hout⟩ | ⟨hr, hout⟩
  · rw [(State.markTested_of_ends hout).1, hr, hout]
    simp only [testPosts, and_true]
    exact if_congr TestCode.marksSample_cases rfl rfl
  · rw [(State.markTested_of_goes hr hv hout).1, hr, hout]
    rfl
  · rw [(State.markTested_of_rests m hr).1, hout]
    cases s.tests.running <;> rfl

/-- What a mark posts of FAULT, told from the held sets before it and after it (R132). -/
theorem State.mark_faultPosts (s : State) (m : MarkInputs) :
    (reportedPart (s.mark m).faults.held = reportedPart s.faults.held → ∀ p ∈ s.markPosts m, p.1 ≠ .fault) ∧
    (s.member.selfState = .active → reportedPart (s.mark m).faults.held ≠ reportedPart s.faults.held →
      ∃ earlier, (s.markPosts m).filter (fun p => p.1 = .fault) =
        earlier ++ [(.fault, (reportedPart (s.mark m).faults.held).setWidth 8)] ∧ earlier.length ≤ 1) := by
  obtain ⟨-, u, v, hheld, hposts⟩ := s.markPosts_filter m
  obtain ⟨hsame, hgrows⟩ := faultPosts_chain s.faults.held u v
  rw [s.mark_faults, hheld, hposts]
  refine ⟨fun h p hp hk => ?_, fun hactive h => by rw [hactive]; exact hgrows h⟩
  by_cases hactive : s.member.selfState = .active
  · have hnone : (s.markPosts m).filter (fun p => p.1 = .fault) = [] := by rw [hposts, hactive, hsame h]
    exact List.filter_eq_nil_iff.1 hnone p hp (by simpa using hk)
  · rw [s.markPosts_of_not_active hactive] at hp
    cases hp

theorem State.markLength_of_none {s : State} (h : s.timer.origin = none) : s.markLength = 0 := by
  rw [State.markLength, h]

theorem State.markLength_of_origin {s : State} {o : Instant} (h : o ∈ s.timer.origin) :
    s.markLength = BitVec.ofNat 16 (min 65535 (s.clock - 12 - o).toNat) := by
  rw [State.markLength, Option.mem_def.1 h]
  rfl

/-- No mark both completes a withdrawal and is a cold start. -/
theorem State.markStationStates_le (s : State) : (s.withdrawnAtMark.1 ++ s.markJoinEvents).length ≤ 1 := by
  unfold State.withdrawnAtMark State.markJoinEvents
  by_cases hc : s.coldStarts = true
  · simp [State.coldStarts_not_leave hc, hc]
  · rw [if_neg hc]
    split <;> simp

/-- Settles O10: block by block from what a mark leaves at each. -/
theorem markStartsEpoch : Obligations.MarkStartsEpoch := by
  intro m s
  refine ⟨s.stretchTaken_iff, fun h => congrArg Host.Outcome.next (if_pos h), fun hfree => ?_⟩
  refine ⟨s.mark m, exec_markRecognised hfree m, ?_⟩
  have hcold := s.coldStarts_iff
  have hleaves := s.markTakesLeave_iff
  have hdeadline := fun h => State.mark_deadline (s := s) (m := m) h
  have htimer := s.mark_timer m
  have hline := s.mark_line m
  have hmember := s.mark_member m
  have hepoch := s.mark_epoch m
  obtain ⟨hfaultSame, hfaultGrows⟩ := s.mark_faultPosts m
  refine ⟨fun h => ?_, fun h => ?_, ?_, ?_, ?_, ?_, ?_, ?_, fun h => ?_, fun o ho => ?_, ?_, ?_, ?_, ?_, ?_, ?_, ?_, ?_, ?_, ?_,
    fun hself hp => ?_, fun h => ?_, fun h => ?_, fun h => ?_, ⟨s.markPosts m, ?_, ?_, ?_, ?_, ?_, ?_⟩, fun h => ?_,
    fun h => ?_, fun hl hc => ?_, fun hroom => ?_, s.mark_engine m, (s.mark_store_clock m).1, (s.mark_store_clock m).2, ?_, ?_⟩
  · rw [hepoch, State.markEpoch, if_pos (hcold.2 h)]
  · rw [hepoch, State.markEpoch, if_neg (mt hcold.1 h)]
  · rw [htimer]
  · rw [htimer]
  · rw [htimer]
  · rw [htimer]
  · rw [htimer]
  · rw [htimer]
  · rw [htimer]
    exact State.markLength_of_none h
  · rw [htimer]
    exact State.markLength_of_origin ho
  · rw [htimer]
    simp only [Bool.and_eq_true, Bool.or_eq_true, bne_iff_ne, ne_eq, MarkDrive.isDriving_iff]
    exact and_comm
  · exact fun h => hdeadline ((SelfState.sends_iff _).2 h)
  · rw [hline]; rfl
  · rw [hline]; rfl
  · rw [hline]; rfl
  · rw [hline]; rfl
  · rw [hline]; rfl
  · rw [hline]; rfl
  · rw [hline]; rfl
  · rw [hline]; rfl
  · rw [hline]
    refine if_neg ?_
    rcases hp with hp | ⟨j, hp⟩ | hp <;> simp [hp, hself, SchedulePos.noClose]
  · rw [hline]
    refine if_pos ?_
    rcases h with h | h | ⟨k, h⟩ <;> simp [h, SchedulePos.noClose]
  · rw [hline]
    exact if_pos ((MarkDrive.isDriving_iff _).2 h)
  · rw [hline]
    exact if_neg (by rw [MarkDrive.isDriving_eq_false h]; simp)
  · exact fun p hp => State.markPosts_kind hp
  · exact fun h => s.markPosts_of_not_active h m
  · exact hfaultSame
  · exact hfaultGrows
  · exact State.mark_testPosts m
  · rw [hline, LineController.posted_notices, LineController.atMark_notices]
    rfl
  · have hl := hleaves.2 h
    have hnot : s.coldStarts = false := by simp [State.coldStarts, h.1]
    refine ⟨by rw [hmember, hnot, hl]; rfl, ?_⟩
    rw [htimer, hnot, State.markDeadline, hl]
    rfl
  · rw [hmember, if_pos (hcold.2 h)]
  · rw [hmember, if_neg (mt hcold.1 hc), if_neg (mt hleaves.1 hl)]
  · obtain ⟨new, hnew, hperm, -⟩ := s.mark_events hroom m
    have hkind : (s.markBlocks m).flatten.filter (fun e => e.kind = .stationState) =
        s.withdrawnAtMark.1 ++ s.markJoinEvents := by
      rw [State.markBlocks_filter]; simp
    have hnewkind := State.mark_filter hperm hkind s.markStationStates_le
    refine ⟨new, hnew, fun h => ?_, fun h => ?_, fun hl hc => ?_⟩
    · have hl := hleaves.2 h
      have hnot : s.coldStarts = false := by simp [State.coldStarts, h.1]
      refine ⟨if Config.freeChoice s.freeCount then s.timer.epoch else s.markEpoch, ?_, ?_⟩
      · rw [hepoch]
        split
        · exact .inl rfl
        · exact .inr rfl
      · rw [hnewkind, State.withdrawnAtMark, hl, State.markJoinEvents, hnot]
        rfl
    · have hc := hcold.2 h
      rw [hnewkind, State.withdrawnAtMark, State.coldStarts_not_leave hc, State.markJoinEvents, hc, State.markEpoch, hc]
      rfl
    · rw [hnewkind, State.withdrawnAtMark, State.markJoinEvents, if_neg (mt hcold.1 hc), if_neg (mt hleaves.1 hl)]
      rfl
  · rw [State.mark_port, LocalPort.appendAll_rest]
  · rw [State.mark_port, LocalPort.appendAll_rest]

end Sys2Proof.Machine
end

section
/-! SUPPORT. The station's own cold start (R50, R57, R92, R124, R170; logs 31 and 33). -/

namespace Sys2Proof.Machine

theorem State.mem_mark_new {s : State} {m : MarkInputs} {new : List EventRecord} (hperm : new.Perm (s.markBlocks m).flatten)
    {e : EventRecord} : e ∈ new ↔ e ∈ s.cutEvents ∨ e ∈ s.withdrawnAtMark.1 ∨ e ∈ s.markHeldEvents m ∨
      e ∈ s.markDoneEvents m ∨ e ∈ s.markFailEvents m ∨ e ∈ s.markJoinEvents ∨ e ∈ s.markAbortEvents m := by
  rw [hperm.mem_iff, State.markBlocks_eq]
  simp only [List.flatten_cons, List.flatten_nil, List.append_nil, List.mem_append]
  tauto

/-- INJECT or MONITOR at a cold start ends by its step of the mark, or else by the abort of the entry to JOINING, with the mark's
number (log 31, log 33). -/
theorem State.mark_cold_ends {s : State} (hc : s.coldStarts = true) (m : MarkInputs) {r : TestRun}
    (hr : s.tests.running = some r) (hcode : r.code = .inject ∨ r.code = .monitor) :
    let o := (testDecision r.code (r.step + 1) m s.emulator.counter s.emulator.perTurn).getD (.aborted .state)
    (s.mark m).tests = ⟨none, some ⟨r.code, o, some s.markEpoch⟩⟩ ∧
      (evTestDone s.markEpoch r.code o ∈ s.markDoneEvents m ∨ evTestDone s.markEpoch r.code o ∈ s.markAbortEvents m) := by
  have hepoch : (s.markTested m).timer.epoch = s.markEpoch := by
    rw [(s.markTested_kept m).2.1, s.markSensed_timer]
  rw [(State.mark_of_cold hc m).2, (s.markTested m).abortTest_state.1]
  rcases s.markCourse m with ⟨r', o, hr', -, hd, hout⟩ | ⟨r', hr', hv, hd, hout⟩ | ⟨hrest, -⟩
  · obtain rfl := Option.some.inj (hr.symm.trans hr')
    rw [(State.markTested_of_ends hout).1, hd]
    refine ⟨rfl, .inl ?_⟩
    rw [State.markDoneEvents, hout]
    exact List.mem_singleton_self _
  · obtain rfl := Option.some.inj (hr.symm.trans hr')
    have htests := (State.markTested_of_goes hr hv hout).1
    rw [htests, hd, hepoch]
    refine ⟨if_pos (TestCode.marksSample_cases.2 hcode), .inr ?_⟩
    rw [State.markAbortEvents, if_pos hc, htests]
    simp only [if_pos hcode]
    exact List.mem_singleton_self _
  · have hv := hrest r hr
    rcases hcode with h | h <;> rw [h] at hv <;> cases hv

/-- Settles O13: the cold start's entry to JOINING, after the mark's own steps. -/
theorem coldStartMarkJoins : Obligations.ColdStartMarkJoins := by
  intro m s since hfree hdrive hlisten hroom
  have hc : s.coldStarts = true := s.coldStarts_iff.2 ⟨by rw [hdrive]; rfl, hlisten⟩
  have hepoch : s.markEpoch = 0 := if_pos hc
  obtain ⟨new, hnew, hperm, -⟩ := s.mark_events hroom m
  have hmember := s.mark_member m
  rw [if_pos hc] at hmember
  have hsensor := (State.mark_of_cold hc m).1
  refine ⟨s.mark m, new, exec_markRecognised hfree m, ?_, ?_, ?_, ?_, ?_, ?_, ?_, ?_, ?_, ?_, ?_, ?_, hnew, ?_,
    fun r hr hcode => ?_⟩
  · rw [hmember]
  · rw [s.mark_epoch, hepoch]
  · simp [s.mark_timer, hdrive, hlisten, MarkDrive.isDriving]
  · exact State.mark_deadline (by rw [hmember]; rfl)
  · rw [hmember]
  · rw [hmember]
  · rw [hmember]
  · rw [hmember]
  · rw [hsensor]
  · rw [hsensor]
  · rw [hsensor]
  · rw [hsensor]
  · refine (State.mem_mark_new hperm).2 (.inr (.inr (.inr (.inr (.inr (.inl ?_))))))
    rw [State.markJoinEvents, if_pos hc, hepoch]
    exact List.mem_singleton_self _
  · obtain ⟨htests, hdone⟩ := State.mark_cold_ends hc m hr hcode
    rw [hepoch] at htests hdone
    refine ⟨_, htests, (State.mem_mark_new hperm).2 ?_, rfl⟩
    rcases hdone with h | h
    · exact .inr (.inr (.inr (.inl h)))
    · exact .inr (.inr (.inr (.inr (.inr (.inr h)))))

end Sys2Proof.Machine
end

section
/-! SUPPORT. A recognised mark at the Sensor Interface and the Fault Register (R63, R119 to R132). -/

namespace Sys2Proof.Machine

/-! ### Steps 1 to 7 (R119 to R127) -/

theorem lossLive_eq (m : MarkInputs) : lossLive m = (m.sinLow || m.cosLow || m.excAbsent) := rfl

/-- Table 7-4 with a loss measured. -/
theorem convStep_of_loss {m : MarkInputs} (h : lossLive m = true) (conv : ConverterState) (count : Nat) :
    convStep m conv count = (.hold, 0) := if_pos h

/-- Table 7-4 without one. -/
theorem convStep_of_no_loss {m : MarkInputs} (h : lossLive m = false) (conv : ConverterState) (count : Nat) :
    (convStep m conv count).1 ≠ .hold ∧
    (conv = .hold → convStep m conv count = (.acquire, 0)) ∧
    (conv = .acquire → m.belowLock = false → convStep m conv count = (.acquire, 0)) ∧
    (conv = .acquire → m.belowLock = true → count < 15 → convStep m conv count = (.acquire, count + 1)) ∧
    (conv = .acquire → m.belowLock = true → 15 ≤ count → convStep m conv count = (.track, 16)) ∧
    (conv = .track → convStep m conv count = (.track, count)) := by
  unfold convStep
  rw [if_neg (by simp [h])]
  refine ⟨?_, ?_, ?_, ?_, ?_, ?_⟩
  · cases conv with
    | hold | track => nofun
    | acquire =>
      simp only
      repeat' split
      all_goals nofun
  · rintro rfl; rfl
  · rintro rfl hb
    simp [hb]
  · rintro rfl hb hc
    simp [hb, show ¬ 15 ≤ count by omega]
  · rintro rfl hb hc
    simp [hb, hc]
  · rintro rfl; rfl

/-- The tracking window while the Converter stays out of HOLD (R121). -/
theorem windowStep_of_running {before after : ConverterState} (hb : before ≠ .hold) (ha : after ≠ .hold) (dw : BitVec 2)
    (exceeded : Bool) (w : List Bool) :
    windowStep dw before after exceeded w = (w ++ [exceeded]).drop (w.length + 1 - windowLength dw) := by
  unfold windowStep
  rw [← show (w ++ [exceeded]).length = w.length + 1 by simp]
  cases before with
  | hold => exact absurd rfl hb
  | acquire | track =>
    cases after with
    | hold => exact absurd rfl ha
    | acquire | track => rfl

theorem windowStep_to_hold (dw : BitVec 2) (before : ConverterState) (exceeded : Bool) (w : List Bool) :
    windowStep dw before .hold exceeded w = w := by
  cases before <;> rfl

theorem windowStep_from_hold {after : ConverterState} (ha : after ≠ .hold) (dw : BitVec 2) (exceeded : Bool)
    (w : List Bool) : windowStep dw .hold after exceeded w = [] := by
  cases after with
  | hold => exact absurd rfl ha
  | acquire | track => rfl

theorem condSet_getLsbD : ∀ sin cos amp exc trk : Bool,
    (condSet sin cos amp exc trk).getLsbD 2 = amp ∧ (condSet sin cos amp exc trk).getLsbD 4 = trk := by decide

theorem SelfTestUnit.injected_of_inject {t : SelfTestUnit} {r : TestRun} (hr : t.running = some r) (hc : r.code = .inject) :
    t.injected = some (injectAngle (r.step + 1)) := by
  obtain ⟨code, step, left⟩ := r
  obtain rfl : code = .inject := hc
  rw [SelfTestUnit.injected, hr]

theorem SelfTestUnit.injected_of_not {t : SelfTestUnit} (h : ∀ r ∈ t.running, r.code ≠ .inject) : t.injected = none := by
  unfold SelfTestUnit.injected
  split
  · next hr => exact absurd rfl (h _ hr)
  · rfl

/-- A mark's test step moves the forced conditions alone, and that under MONITOR alone. -/
theorem State.markTested_sensor (s : State) (m : MarkInputs) : ∃ f,
    ((∀ r ∈ s.tests.running, r.code ≠ .monitor) → f = s.sensor.forced) ∧ (s.markTested m).sensor =
      { s.sensor.mark m s.tests.injected s.tests.samplesUnderTest with forced := f } := by
  rcases s.markCourse m with ⟨r, o, hr, -, -, hout⟩ | ⟨r, hr, hv, -, hout⟩ | ⟨hrest, -⟩
  · rw [(State.markTested_of_ends hout).2.1, TestCode.endSensor]
    split
    · next hc => exact ⟨0, fun h => absurd hc (h r hr), rfl⟩
    · exact ⟨s.sensor.forced, fun _ => rfl, rfl⟩
  · rw [(State.markTested_of_goes hr hv hout).2.1, TestRun.stepSensor]
    split
    · next hc => exact ⟨_, fun h => absurd hc.1 (h r hr), rfl⟩
    · exact ⟨s.sensor.forced, fun _ => rfl, rfl⟩
  · rw [(State.markTested_of_rests m hrest).2.1]
    exact ⟨s.sensor.forced, fun _ => rfl, rfl⟩

/-- A test in progress after a mark is the one before it. -/
theorem State.markTested_runs {s : State} {m : MarkInputs} {c : TestCode} (h : (s.markTested m).tests.runs c = true) :
    s.tests.runs c = true := by
  rcases s.markCourse m with ⟨r, o, hr, -, -, hout⟩ | ⟨r, hr, hv, -, hout⟩ | ⟨hrest, -⟩
  · rw [(State.markTested_of_ends hout).1, SelfTestUnit.runs_none rfl] at h
    cases h
  · rw [(State.markTested_of_goes hr hv hout).1, SelfTestUnit.runs_iff rfl] at h
    exact (SelfTestUnit.runs_iff hr c).2 h
  · rwa [(State.markTested_of_rests m hrest).1] at h

/-- The Sensor Interface after a mark: its own steps, the forced conditions of MONITOR, and a cold start's realignment. -/
theorem State.mark_sensor (s : State) (m : MarkInputs) : ∃ f,
    ((∀ r ∈ s.tests.running, r.code ≠ .monitor) → f = s.sensor.forced) ∧
    (s.coldStarts = false → (s.mark m).sensor =
      { s.sensor.mark m s.tests.injected s.tests.samplesUnderTest with forced := f }) ∧
    (s.coldStarts = true → (s.mark m).sensor =
      { s.sensor.mark m s.tests.injected s.tests.samplesUnderTest with
        forced := f, excitation := some (s.clock - 12), conv := .acquire, acqCount := 0, window := [] }) := by
  obtain ⟨f, hf, hsensor⟩ := s.markTested_sensor m
  cases hc : s.coldStarts with
  | false => exact ⟨f, hf, fun _ => (State.mark_of_not_cold hc m).1.trans hsensor, nofun⟩
  | true =>
    refine ⟨if (s.markTested m).tests.runs .monitor then 0 else f, fun h => ?_, nofun, fun _ => ?_⟩
    · rw [if_neg, hf h]
      intro hruns
      have hbefore := State.markTested_runs hruns
      cases hr : s.tests.running with
      | none => rw [SelfTestUnit.runs_none hr] at hbefore; cases hbefore
      | some r => exact h r hr ((SelfTestUnit.runs_iff hr _).1 hbefore)
    · rw [(State.mark_of_cold hc m).1, hsensor]

/-! ### Step 8 (R129, R131, R132) -/

theorem set_selfTest_getLsbD (f : FaultRegister) {i : Nat} (hi : i ≠ 5) :
    (f.set .selfTest).held.getLsbD i = f.held.getLsbD i := by
  have hmask : FaultKind.selfTest.mask.getLsbD i = false := by
    simp only [FaultKind.mask, FaultKind.bit, BitVec.getLsbD_shiftLeft, BitVec.getLsbD_one]
    simp
    omega
  rw [FaultRegister.set, BitVec.getLsbD_or, hmask, Bool.or_false]

theorem endFaultsAt_getLsbD (f : FaultRegister) (out : Option (TestCode × TestOutcome)) {i : Nat} (hi : i ≠ 5) :
    (endFaultsAt f out).held.getLsbD i = f.held.getLsbD i := by
  rcases endFaultsAt_cases f out with h | ⟨-, -, -, h⟩ <;> rw [h]
  exact set_selfTest_getLsbD f hi

theorem heldSensors_getLsbD (ev : CondSet) (f : FaultRegister) (i : Nat) :
    (heldSensors ev f).held.getLsbD i = (f.held.getLsbD i || ev.getLsbD i) := by
  rw [heldSensors_held, BitVec.getLsbD_or, BitVec.getLsbD_setWidth]
  by_cases hi : i < 10
  · simp [hi]
  · rw [BitVec.getLsbD_of_ge ev i (by omega)]
    simp

/-- Each condition evaluated live is held after a mark; SELFTEST alone may be held beside them (R129). -/
theorem State.markFaults_getLsbD (s : State) (m : MarkInputs) {i : Nat} (hi : i ≠ 5) :
    (s.markFaults m).held.getLsbD i = (s.faults.held.getLsbD i || (s.markEvaluated m).getLsbD i) := by
  rw [State.markFaults, heldSensors_getLsbD, endFaultsAt_getLsbD _ _ hi]

/-- SELFTEST after a mark is as the test's end leaves it. -/
theorem State.markFaults_selfTest (s : State) (m : MarkInputs) :
    (s.markFaults m).held.getLsbD 5 = (endFaultsAt s.faults (s.testOutcomeAt m)).held.getLsbD 5 := by
  rw [State.markFaults, heldSensors_getLsbD, BitVec.getLsbD_of_ge _ 5 (Nat.le_refl 5), Bool.or_false]

theorem FaultRegister.set_selfTest_held (f : FaultRegister) : (f.set .selfTest).held.getLsbD 5 = true := by
  have h := f.holds_set .selfTest .selfTest
  rwa [decide_eq_true rfl, Bool.or_true] at h

/-- FLT is asserted by whatever a mark holds newly (R131). -/
theorem State.markFaults_flt {s : State} {m : MarkInputs} (h : (s.markFaults m).held ≠ s.faults.held) :
    (s.markFaults m).flt = true := by
  unfold State.markFaults at h ⊢
  rcases heldSensors_cases (s.markEvaluated m) (endFaultsAt s.faults (s.testOutcomeAt m)) with hsame | ⟨hflt, -⟩
  · rw [hsame] at h ⊢
    rcases endFaultsAt_cases s.faults (s.testOutcomeAt m) with hend | ⟨-, -, -, hend⟩ <;> rw [hend] at h ⊢
    · exact absurd rfl h
    · rfl
  · exact hflt

/-- Records that stand in one block keep the block's order among the others (R145). -/
theorem filter_of_sublist {new es b : List EventRecord} {p : EventRecord → Bool} (hperm : new.Perm es)
    (hsub : b.Sublist new) (hb : es.filter p = b) : new.filter p = b := by
  have hself : b.filter p = b := by rw [← hb, List.filter_filter]; simp
  have hle := hsub.filter p
  rw [hself] at hle
  exact (hle.eq_of_length (by rw [← hb, (hperm.filter p).length_eq])).symm

end Sys2Proof.Machine
end

section
/-! SUPPORT. The statement on a recognised mark at the Sensor Interface and the Fault Register (R63, R119 to R132). -/

namespace Sys2Proof.Machine

theorem evFaultHeld_ne_selfTest {k : FaultKind} (hk : k ∈ sensorKinds) (e : Epoch) :
    evFaultHeld e k ≠ evFaultHeld e .selfTest := by
  have hbits : ∀ k ∈ sensorKinds, BitVec.ofNat 8 k.bit ≠ BitVec.ofNat 8 FaultKind.selfTest.bit := by decide
  intro h
  exact hbits k hk (Option.some.inj (congrArg EventRecord.argument h))

/-- The FAULT_HELD of the sensor kinds that a mark appends stand in the order of R129. -/
theorem State.mark_heldEvents {s : State} {m : MarkInputs} {new : List EventRecord}
    (hperm : new.Perm (s.markBlocks m).flatten) (hsub : ∀ b ∈ s.markBlocks m, b.Sublist new) :
    new.filter (fun e => e.kind = .faultHeld ∧ e ≠ evFaultHeld s.markEpoch .selfTest) = s.markHeldEvents m := by
  refine filter_of_sublist hperm (hsub _ (by rw [State.markBlocks_eq]; simp)) ?_
  have hkind : (s.markBlocks m).flatten.filter (fun e => e.kind = .faultHeld) = s.markHeldEvents m ++ s.markFailEvents m := by
    rw [State.markBlocks_filter]
    simp
  have hheld : ∀ e ∈ s.markHeldEvents m, e ≠ evFaultHeld s.markEpoch .selfTest := by
    intro e he
    obtain ⟨k, hk, rfl⟩ := List.mem_map.1 he
    exact evFaultHeld_ne_selfTest (List.mem_filter.1 hk).1 _
  have hfail : ∀ e ∈ s.markFailEvents m, e = evFaultHeld s.markEpoch .selfTest := by
    unfold State.markFailEvents faultEvents
    repeat' split
    all_goals simp
  have hsplit : (s.markBlocks m).flatten.filter (fun e => e.kind = .faultHeld ∧ e ≠ evFaultHeld s.markEpoch .selfTest) =
      ((s.markBlocks m).flatten.filter fun e => e.kind = .faultHeld).filter
        fun e => e ≠ evFaultHeld s.markEpoch .selfTest := by
    rw [List.filter_filter]
    refine List.filter_congr fun e _ => ?_
    rw [Bool.and_comm, Bool.decide_and]
  have hself : (s.markHeldEvents m).filter (fun e => e ≠ evFaultHeld s.markEpoch .selfTest) = s.markHeldEvents m :=
    List.filter_eq_self.2 fun e he => decide_eq_true (hheld e he)
  have hnone : (s.markFailEvents m).filter (fun e => e ≠ evFaultHeld s.markEpoch .selfTest) = [] :=
    List.filter_eq_nil_iff.2 fun e he => by simpa using hfail e he
  rw [hsplit, hkind, List.filter_append, hself, hnone, List.append_nil]

/-- The angle INJECT supplies at its mark after i steps (R165). -/
theorem injectAngle_succ (i : Nat) :
    injectAngle (i + 1) = if i < 4 then 0x1555#16 else if i < 8 then 0x9AAA#16 else 0xF000#16 := by
  simp only [injectAngle, Order.add_one_le_iff]
  rfl

/-- The conditions held newly are those of the records (R129). -/
theorem State.markHeldEvents_eq (s : State) (m : MarkInputs) : s.markHeldEvents m =
    (sensorKinds.filter fun k => holds (s.markFaults m).held k && !holds s.faults.held k).map
      (evFaultHeld s.markEpoch) := by
  refine congrArg (List.map _) (List.filter_congr fun k hk => ?_)
  have hbit : k.bit ≠ 5 := by
    have hall : ∀ k ∈ sensorKinds, k.bit ≠ 5 := by decide
    exact hall k hk
  have hheld : holds (s.markFaults m).held k = (holds s.faults.held k || condHolds (s.markEvaluated m) k) :=
    s.markFaults_getLsbD m hbit
  rw [hheld]
  cases holds s.faults.held k <;> simp

theorem SelfTestUnit.samplesUnderTest_iff (t : SelfTestUnit) :
    t.samplesUnderTest = true ↔ ∃ r ∈ t.running, r.code = .inject ∨ r.code = .monitor := by
  unfold SelfTestUnit.samplesUnderTest
  cases t.running with
  | none => simp
  | some r => simp [TestCode.marksSample_cases]

/-- Settles O11: the sensor's steps, step 8 and the notice, from what a mark leaves at each block. -/
theorem markJudgesSensor : Obligations.MarkJudgesSensor := by
  intro m s hfree cold loss
  set x := s.sensor.mark m s.tests.injected s.tests.samplesUnderTest with hx
  obtain ⟨f, hf, hwarm, hcold⟩ := s.mark_sensor m
  have hiff : cold ↔ s.coldStarts = true := s.coldStarts_iff.symm
  -- what both courses share
  have hshared : (s.mark m).sensor.evaluated = x.evaluated ∧ (s.mark m).sensor.prevLatch = x.prevLatch ∧
      (s.mark m).sensor.sample = x.sample ∧ (s.mark m).sensor.underTest = x.underTest ∧
      (s.mark m).sensor.forced = f ∧ (s.mark m).sensor.dw = s.sensor.dw := by
    cases hc : s.coldStarts with
    | false => rw [hwarm hc]; exact ⟨rfl, rfl, rfl, rfl, rfl, rfl⟩
    | true => rw [hcold hc]; exact ⟨rfl, rfl, rfl, rfl, rfl, rfl⟩
  have hwindow : x.window = windowStep s.sensor.dw s.sensor.conv x.conv m.exceeded s.sensor.window := rfl
  obtain ⟨hev, hlatch, hsample, hunder, hforced, hdw⟩ := hshared
  refine ⟨s.mark m, x.conv, x.acqCount, x.window, exec_markRecognised hfree m, fun hloss => ?_, fun hloss => ?_,
    fun hc => ?_, fun hc => ?_, ?_, ?_, fun h => ?_, fun r hr hc hstep => ?_, fun h => ?_, fun p hp => ?_, ?_, ?_, ?_,
    fun h => ?_, hdw, fun i hi => ?_, fun h => ?_, fun h => ?_, fun h => ?_, fun hroom => ?_, fun hactive hpart => ?_⟩
  · have hstep := convStep_of_loss hloss s.sensor.conv s.sensor.acqCount
    have hconv : x.conv = .hold := congrArg Prod.fst hstep
    refine ⟨hconv, congrArg Prod.snd hstep, ?_⟩
    rw [hwindow, hconv, windowStep_to_hold]
  · obtain ⟨hrun, h1, h2, h3, h4, h5⟩ := convStep_of_no_loss hloss s.sensor.conv s.sensor.acqCount
    have hboth {c : ConverterState × Nat} (h : convStep m s.sensor.conv s.sensor.acqCount = c) :
        x.conv = c.1 ∧ x.acqCount = c.2 := ⟨congrArg Prod.fst h, congrArg Prod.snd h⟩
    refine ⟨fun hc => ?_, fun hc hb => hboth (h2 hc hb), fun hc hb hn => hboth (h3 hc hb hn),
      fun hc hb hn => hboth (h4 hc hb hn), fun hc => hboth (h5 hc), fun hc => ?_⟩
    · obtain ⟨hconv, hcount⟩ := hboth (h1 hc)
      refine ⟨hconv, hcount, ?_⟩
      rw [hwindow, hc]
      exact windowStep_from_hold hrun _ _ _
    · rw [hwindow]
      exact windowStep_of_running hc hrun _ _ _
  · rw [hwarm (Bool.eq_false_iff.2 (mt hiff.2 hc))]
    exact ⟨rfl, rfl, rfl, rfl⟩
  · rw [hcold (hiff.1 hc), s.mark_timer]
    exact ⟨rfl, rfl, rfl, rfl⟩
  · rw [hev]; rfl
  · rw [hlatch]; rfl
  · rw [hlatch, hsample, hx, SelfTestUnit.injected_of_not h]; rfl
  · rw [hsample, hx, SelfTestUnit.injected_of_inject hr hc]
    exact injectAngle_succ r.step
  · rw [hsample, hx]
    simp only [SensorInterface.mark, h]
  · rw [hsample, hx]
    simp only [SensorInterface.mark, Option.mem_def.1 hp]
    rfl
  · rw [hsample]
    exact beq_iff_eq
  · rw [hsample, hev]
    obtain ⟨h2, h4⟩ := condSet_getLsbD m.sinLow m.cosLow m.sumOut m.excAbsent (trackingLive s.sensor.dw x.window)
    have hevaluated : x.evaluated =
        condSet m.sinLow m.cosLow m.sumOut m.excAbsent (trackingLive s.sensor.dw x.window) := rfl
    have hfault : x.sample.sensorFault = (x.conv == .hold || m.sumOut || trackingLive s.sensor.dw x.window) := rfl
    rw [hevaluated, h2, h4, hfault, Bool.or_eq_true, Bool.or_eq_true, beq_iff_eq, or_assoc]
  · rw [hunder]
    exact s.tests.samplesUnderTest_iff
  · rw [hforced, hf h]
  · rw [s.mark_faults, s.markFaults_getLsbD m hi, hev, Bool.or_eq_true]
    rfl
  · rw [s.mark_faults, s.markFaults_selfTest]
    rcases endFaultsAt_cases s.faults (s.testOutcomeAt m) with hend | ⟨-, -, -, hend⟩ <;> rw [hend]
    · exact h
    · exact s.faults.set_selfTest_held
  · have hout : s.testOutcomeAt m = none := by rw [State.testOutcomeAt, h]
    rw [s.mark_faults, s.markFaults_selfTest, hout, State.markFaults, hout]
    refine ⟨rfl, fun hsame => ?_⟩
    exact (heldSensors_cases (s.markEvaluated m) s.faults).resolve_right fun hnew => hnew.2 hsame
  · rw [s.mark_faults] at h ⊢
    exact State.markFaults_flt h
  · obtain ⟨new, hnew, hperm, hsub⟩ := s.mark_events hroom m
    rw [hnew, List.drop_left, s.mark_epoch, s.mark_faults, State.mark_heldEvents hperm hsub, s.markHeldEvents_eq]
  · obtain ⟨earlier, hposts, -⟩ := (s.mark_faultPosts m).2 hactive hpart
    obtain ⟨e, he, hkind, harg, -⟩ := exists_postAll (k := .fault) nofun _ hposts
    refine ⟨e, ?_, hkind, harg⟩
    rw [s.mark_line]
    exact he

end Sys2Proof.Machine
end

section
/-! SUPPORT. The tests counted by marks: INJECT, MONITOR and PULSE at a mark, and the end of a test (R132, R165, R166, R168, R169). -/

namespace Sys2Proof.Machine

/-! ### The Self-Test Unit after a mark, with a cold start or without -/

theorem State.markAbortEvents_of_not_cold {s : State} (h : s.coldStarts = false) (m : MarkInputs) :
    s.markAbortEvents m = [] := by
  rw [State.markAbortEvents, h]
  rfl

/-- After a test that ends at a mark nothing is left for the abort of a cold start. -/
theorem State.mark_tests_of_ends {s : State} {m : MarkInputs} {c : TestCode} {o : TestOutcome}
    (hout : s.testOutcomeAt m = some (c, o)) :
    (s.mark m).tests = ⟨none, some ⟨c, o, some s.markEpoch⟩⟩ ∧ s.markAbortEvents m = [] := by
  have htests := (State.markTested_of_ends hout).1
  cases hc : s.coldStarts with
  | false => exact ⟨(State.mark_of_not_cold hc m).2.trans htests, State.markAbortEvents_of_not_cold hc m⟩
  | true =>
    rw [(State.mark_of_cold hc m).2, (s.markTested m).abortTest_state.1, State.markAbortEvents, htests, hc]
    exact ⟨rfl, rfl⟩

/-- A test that goes on, where no cold start aborts it. -/
theorem State.mark_tests_of_goes {s : State} {m : MarkInputs} {r : TestRun} (hr : s.tests.running = some r)
    (hv : r.code ≠ .vote) (hout : s.testOutcomeAt m = none) (h : s.coldStarts = false ∨ r.code = .pulse) :
    (s.mark m).tests = { s.tests with running := some ⟨r.code, r.step + 1, r.remaining - 1⟩ } ∧
      s.markAbortEvents m = [] := by
  have htests := (State.markTested_of_goes hr hv hout).1
  cases hc : s.coldStarts with
  | false => exact ⟨(State.mark_of_not_cold hc m).2.trans htests, State.markAbortEvents_of_not_cold hc m⟩
  | true =>
    have hpulse : r.code = .pulse := h.resolve_left (by simp [hc])
    have hrunning : (⟨r.code, r.step + 1, r.remaining - 1⟩ : TestRun) ∈ (s.markTested m).tests.running := by rw [htests]; rfl
    rw [(State.mark_of_cold hc m).2, ((s.markTested m).abortTest_state_tests hrunning).2 (.inr hpulse),
      State.markAbortEvents, htests]
    exact ⟨rfl, by simp [hpulse]⟩

theorem State.mark_tests_of_rests {s : State} (m : MarkInputs) (hr : ∀ r ∈ s.tests.running, r.code = .vote) :
    (s.mark m).tests = s.tests ∧ s.markAbortEvents m = [] := by
  have htests := (State.markTested_of_rests m hr).1
  cases hc : s.coldStarts with
  | false => exact ⟨(State.mark_of_not_cold hc m).2.trans htests, State.markAbortEvents_of_not_cold hc m⟩
  | true =>
    rw [(State.mark_of_cold hc m).2, (s.markTested m).abortTest_state.1, State.markAbortEvents, htests]
    cases hrun : s.tests.running with
    | none => exact ⟨rfl, by simp⟩
    | some r =>
      have hvote : r.code = .vote := hr r hrun
      simp [TestCode.marksSample, hvote]

/-! ### INJECT (R125, R165) -/

theorem testDecision_inject (k : Nat) (m : MarkInputs) (counter perTurn : Nat) :
    testDecision .inject k m counter perTurn = if circMag m.latchReadback (injectAngle k) ≤ 2
      then (if k ≥ 12 then some .pass else none) else some (.fail k) := rfl

/-- A test that fails at a mark holds SELFTEST and asserts FLT (R129, R131, R169). -/
theorem State.markFaults_of_fail {s : State} {m : MarkInputs} {c : TestCode} {n : Nat}
    (hout : s.testOutcomeAt m = some (c, .fail n)) :
    (s.markFaults m).held.getLsbD 5 = true ∧ (s.markFaults m).flt = true := by
  refine ⟨?_, ?_⟩
  · rw [s.markFaults_selfTest, hout]
    exact s.faults.set_selfTest_held
  · rw [State.markFaults, hout]
    rcases heldSensors_cases (s.markEvaluated m) (endFaultsAt s.faults (some (c, .fail n))) with h | ⟨h, -⟩
    · rw [h]; rfl
    · exact h

/-- Settles O14: the step of INJECT by its readback. -/
theorem injectStepLatchesAngle : Obligations.InjectStepLatchesAngle := by
  intro m s i left a hfree hr hi hcold ha
  have hc : s.coldStarts = false := Bool.eq_false_iff.2 (mt s.coldStarts_iff.1 hcold)
  have hangle : injectAngle (i + 1) = a := by rw [injectAngle_succ, ha]
  obtain ⟨f, -, hsensor, -⟩ := s.mark_sensor m
  have hsensor := hsensor hc
  have hout : s.testOutcomeAt m =
      (testDecision .inject (i + 1) m s.emulator.counter s.emulator.perTurn).map fun o => (.inject, o) := by
    rw [State.testOutcomeAt, hr]
  rw [testDecision_inject, hangle] at hout
  refine ⟨s.mark m, exec_markRecognised hfree m, ?_, ?_, ?_, fun hok hlast => ?_, fun hok hlast => ?_, fun hbad => ?_⟩
  · rw [hsensor, SelfTestUnit.injected_of_inject hr rfl, hangle]
    rfl
  · rw [hsensor]
    exact s.tests.samplesUnderTest_iff.2 ⟨_, hr, .inl rfl⟩
  · rw [hsensor]
    rfl
  · rw [if_pos hok, if_neg (by omega)] at hout
    rw [(State.mark_tests_of_goes hr nofun hout (.inl hc)).1]
    exact ⟨rfl, rfl⟩
  · rw [if_pos hok, if_pos (by omega)] at hout
    rw [(State.mark_tests_of_ends hout).1, s.mark_epoch]
  · rw [if_neg (by omega)] at hout
    rw [(State.mark_tests_of_ends hout).1, s.mark_epoch, s.mark_faults]
    exact ⟨rfl, State.markFaults_of_fail hout⟩

end Sys2Proof.Machine
end

section
/-! SUPPORT. MONITOR and PULSE at a mark, and the end of a test counted by marks (R132, R166, R168, R169). -/

namespace Sys2Proof.Machine

/-! ### PULSE's test counter (R168) -/

/-- A hundred counts up or down, in one step modulo the turn. -/
theorem moveCount_eq {perTurn c : Nat} (up : Bool) (n : Nat) (hn : n ≤ perTurn) (hc : c < perTurn) :
    moveCount up perTurn n c = (if up then c + n else c + perTurn - n) % perTurn := by
  induction n generalizing c with
  | zero =>
    cases up with
    | true => exact (Nat.mod_eq_of_lt hc).symm
    | false => simp [moveCount, Nat.mod_eq_of_lt hc]
  | succ n ih =>
    have hlt : ∀ x : Nat, x % perTurn < perTurn := fun x => Nat.mod_lt x (by omega)
    cases up with
    | true =>
      rw [moveCount, countStep, if_pos rfl, ih (by omega) (hlt _), if_pos rfl, if_pos rfl, Nat.mod_add_mod]
      congr 1
      omega
    | false =>
      rw [moveCount, countStep, if_neg nofun, ih (by omega) (hlt _), if_neg nofun, if_neg nofun,
        Nat.add_sub_assoc (by omega), Nat.mod_add_mod,
        show c + perTurn - 1 + (perTurn - n) = c + perTurn - (n + 1) + perTurn by omega, Nat.add_mod_right]

theorem PulseEmulator.moveTest_testHold {e : PulseEmulator} {c : Nat} (h : e.testHold = some c) (hc : c < e.perTurn)
    (up : Bool) : (e.moveTest up).testHold = some ((if up then c + 100 else c + e.perTurn - 100) % e.perTurn) := by
  have hturn : 100 ≤ e.perTurn := by rcases e.perTurn_cases with h | h | h | h <;> omega
  rw [PulseEmulator.moveTest, h]
  exact congrArg some (moveCount_eq up 100 hturn hc)

theorem PulseEmulator.unhold_counter (e : PulseEmulator) : e.unhold.counter = e.counter := by
  unfold PulseEmulator.unhold
  split <;> rfl

/-- A mark that ends no PULSE test moves nothing of the emulator but the test hold. -/
theorem TestRun.stepEmulator_eq (r : TestRun) (e : PulseEmulator) :
    r.stepEmulator e = { e with testHold := (r.stepEmulator e).testHold } := by
  unfold TestRun.stepEmulator
  repeat' split
  all_goals rfl

/-- A mark leaves the emulator as its test step does. -/
theorem State.mark_emulator_of_ends {s : State} {m : MarkInputs} {c : TestCode} {o : TestOutcome}
    (hout : s.testOutcomeAt m = some (c, o)) : (s.mark m).emulator = c.endEmulator s.emulator :=
  (s.mark_emulator m).trans (State.markTested_of_ends hout).2.2

theorem State.mark_emulator_of_goes {s : State} {m : MarkInputs} {r : TestRun} (hr : s.tests.running = some r)
    (hv : r.code ≠ .vote) (hout : s.testOutcomeAt m = none) : (s.mark m).emulator = r.stepEmulator s.emulator :=
  (s.mark_emulator m).trans (State.markTested_of_goes hr hv hout).2.2

theorem State.mark_emulator_of_rests {s : State} (m : MarkInputs) (hr : ∀ r ∈ s.tests.running, r.code = .vote) :
    (s.mark m).emulator = s.emulator :=
  (s.mark_emulator m).trans (State.markTested_of_rests m hr).2.2

/-- Without PULSE a mark leaves the emulator alone. -/
theorem State.mark_emulator_of_no_pulse {s : State} (m : MarkInputs) (h : ∀ r ∈ s.tests.running, r.code ≠ .pulse) :
    (s.mark m).emulator = s.emulator := by
  rcases s.markCourse m with ⟨r, o, hr, -, -, hout⟩ | ⟨r, hr, hv, -, hout⟩ | ⟨hrest, -⟩
  · rw [State.mark_emulator_of_ends hout, TestCode.endEmulator, if_neg (h r hr)]
  · rw [State.mark_emulator_of_goes hr hv hout, TestRun.stepEmulator, if_neg (fun hc => h r hr hc.1),
      if_neg (fun hc => h r hr hc.1)]
  · exact State.mark_emulator_of_rests m hrest

/-- A mark moves the test hold alone, where the outputs stood at their levels or the test goes on. -/
theorem State.mark_emulator_hold {s : State} {m : MarkInputs} (h : (s.mark m).tests.running ≠ none ∨ s.emulatorSound) :
    (s.mark m).emulator = { s.emulator with testHold := (s.mark m).emulator.testHold } := by
  rcases s.markCourse m with ⟨r, o, hr, -, -, hout⟩ | ⟨r, hr, hv, -, hout⟩ | ⟨hrest, -⟩
  · have hsound : s.emulator.ok := h.resolve_left fun hrunning => hrunning (by rw [(State.mark_tests_of_ends hout).1])
    rw [State.mark_emulator_of_ends hout, TestCode.endEmulator]
    split
    · rw [PulseEmulator.unhold_of_ok hsound]
    · rfl
  · rw [State.mark_emulator_of_goes hr hv hout]
    exact r.stepEmulator_eq s.emulator
  · rw [State.mark_emulator_of_rests m hrest]

/-! ### Decisions (R165, R166, R168) -/

theorem testDecision_outcome {c : TestCode} {k : Nat} {m : MarkInputs} {counter perTurn : Nat} {o : TestOutcome}
    (h : testDecision c k m counter perTurn = some o) : o = .pass ∨ ∃ n, o = .fail n := by
  unfold testDecision at h
  split at h
  all_goals repeat' split at h
  all_goals cases h <;> simp

theorem testDecision_monitor (k : Nat) (m : MarkInputs) (counter perTurn : Nat) :
    testDecision .monitor k m counter perTurn = if condHolds m.liveReadback (monitorCond k)
      then (if k ≥ 10 then some .pass else none) else some (.fail k) := rfl

theorem condHolds_monitorCond {i : Nat} (hi : i < 10) (set : CondSet) :
    condHolds set (monitorCond (i + 1)) = set.getLsbD (i / 2) := by
  have hbit : ∀ i < 10, (monitorCond (i + 1)).bit = i / 2 := by decide
  rw [condHolds, hbit i hi]

theorem condMask_monitorCond {i : Nat} (hi : i < 9) (hodd : i % 2 = 1) :
    condMask (monitorCond (i + 2)) = 1#5 <<< ((i + 1) / 2) := by
  have hall : ∀ i < 9, i % 2 = 1 → condMask (monitorCond (i + 2)) = 1#5 <<< ((i + 1) / 2) := by decide
  exact hall i hi hodd

/-! ### The end of a test -/

/-- The SELFTEST record of a mark is that of the test that fails at it. -/
theorem State.mem_mark_selfTest {s : State} {m : MarkInputs} {new : List EventRecord}
    (hperm : new.Perm (s.markBlocks m).flatten) :
    evFaultHeld s.markEpoch .selfTest ∈ new ↔ evFaultHeld s.markEpoch .selfTest ∈ s.markFailEvents m := by
  have hkind : (s.markBlocks m).flatten.filter (fun e => e.kind = .faultHeld) = s.markHeldEvents m ++ s.markFailEvents m := by
    rw [State.markBlocks_filter]
    simp
  have hnot : evFaultHeld s.markEpoch .selfTest ∉ s.markHeldEvents m := by
    intro h
    obtain ⟨k, hk, heq⟩ := List.mem_map.1 h
    exact evFaultHeld_ne_selfTest (List.mem_filter.1 hk).1 _ heq
  have hmem := List.mem_filter (x := evFaultHeld s.markEpoch .selfTest) (as := (s.markBlocks m).flatten)
    (p := fun e => e.kind = .faultHeld)
  rw [hkind, List.mem_append, or_iff_right hnot] at hmem
  rw [hperm.mem_iff, hmem]
  exact (and_iff_left (decide_eq_true rfl)).symm

/-- The TEST_DONE of a mark. -/
theorem State.mark_testDone {s : State} {m : MarkInputs} {new : List EventRecord}
    (hperm : new.Perm (s.markBlocks m).flatten) (habort : s.markAbortEvents m = []) :
    new.filter (fun e => e.kind = .testDone) = s.markDoneEvents m := by
  refine State.mark_filter hperm ?_ (s.markBlocks_lengths m).2.2.2.1
  rw [State.markBlocks_filter, habort]
  simp

/-- A mark at which no test ends appends neither TEST_DONE nor the FAULT_HELD of SELFTEST, and leaves SELFTEST as it was. -/
theorem State.mark_of_no_end {s : State} {m : MarkInputs} {new : List EventRecord} (hout : s.testOutcomeAt m = none)
    (hperm : new.Perm (s.markBlocks m).flatten) (habort : s.markAbortEvents m = []) :
    new.filter (fun e => e.kind = .testDone) = [] ∧ evFaultHeld s.markEpoch .selfTest ∉ new := by
  rw [State.mark_testDone hperm habort, State.mem_mark_selfTest hperm, State.markDoneEvents, State.markFailEvents, hout]
  exact ⟨rfl, List.not_mem_nil⟩

/-- A test that ends at a mark in ACTIVE leaves its END notice pending (R169). -/
theorem State.mark_endNotice {s : State} {m : MarkInputs} {c : TestCode} {o : TestOutcome}
    (hout : s.testOutcomeAt m = some (c, o)) (hactive : s.member.selfState = .active) (hc : c.marksSample = true) :
    ∃ e ∈ (s.mark m).line.notices, e.kind = .test ∧ e.rounds = 0 ∧
      e.argument = BitVec.ofNat 8 (c.code + 8 + 16 * o.code) := by
  have hposts := (s.markPosts_filter m).1
  rw [hout, hactive, testPosts, if_pos ⟨hc, rfl⟩] at hposts
  obtain ⟨e, he, hkind, harg, hrounds⟩ := exists_postAll (k := .test) (earlier := []) nofun
    (s.line.atMark (s.timer.position.noClose || s.member.selfState == SelfState.lockout)).notices hposts
  rw [s.mark_line]
  exact ⟨e, he, hkind, hrounds nofun, harg⟩

/-- A test that fails at a mark where SELFTEST was not held posts FAULT in ACTIVE (R132). -/
theorem State.mark_failNotice {s : State} {m : MarkInputs} {c : TestCode} {n : Nat}
    (hout : s.testOutcomeAt m = some (c, .fail n)) (hactive : s.member.selfState = .active)
    (hnew : s.faults.held.getLsbD 5 = false) :
    ∃ e ∈ (s.mark m).line.notices, e.kind = .fault ∧
      e.argument = (reportedPart (s.mark m).faults.held).setWidth 8 := by
  have hpart : reportedPart (s.mark m).faults.held ≠ reportedPart s.faults.held := by
    intro h
    have hbit := congrArg (fun x : ReportedSet => x.getLsbD 5) h
    simp only [reportedPart, BitVec.getLsbD_setWidth, s.mark_faults, (State.markFaults_of_fail hout).1, hnew] at hbit
    cases hbit
  obtain ⟨earlier, hposts, -⟩ := (s.mark_faultPosts m).2 hactive hpart
  obtain ⟨e, he, hkind, harg, -⟩ := exists_postAll (k := .fault) nofun
    (s.line.atMark (s.timer.position.noClose || s.member.selfState == SelfState.lockout)).notices hposts
  rw [s.mark_line] at *
  exact ⟨e, he, hkind, harg⟩

end Sys2Proof.Machine
end

section
/-! SUPPORT. The statement on MONITOR and PULSE at a mark, clause by clause (R132, R166, R168, R169; log 33). -/

namespace Sys2Proof.Machine

theorem State.testOutcomeAt_of_running {s : State} {m : MarkInputs} {r : TestRun} (hr : s.tests.running = some r) :
    s.testOutcomeAt m =
      (testDecision r.code (r.step + 1) m s.emulator.counter s.emulator.perTurn).map fun o => (r.code, o) := by
  rw [State.testOutcomeAt, hr]

/-- MONITOR at its mark i + 1, without a cold start (R166). -/
theorem State.mark_monitor {s : State} {i left : Nat} (m : MarkInputs) (hr : s.tests.running = some ⟨.monitor, i, left⟩)
    (hi : i < 10) (hc : s.coldStarts = false) :
    (m.liveReadback.getLsbD (i / 2) = false →
      (s.mark m).tests = ⟨none, some ⟨.monitor, .fail (i + 1), some s.markEpoch⟩⟩ ∧ (s.mark m).sensor.forced = 0) ∧
    (m.liveReadback.getLsbD (i / 2) = true → i = 9 →
      (s.mark m).tests = ⟨none, some ⟨.monitor, .pass, some s.markEpoch⟩⟩ ∧ (s.mark m).sensor.forced = 0) ∧
    (m.liveReadback.getLsbD (i / 2) = true → i < 9 →
      (s.mark m).tests.running = some ⟨.monitor, i + 1, left - 1⟩ ∧
        (s.mark m).sensor.forced = if i % 2 = 1 then 1#5 <<< ((i + 1) / 2) else s.sensor.forced) := by
  have hout : s.testOutcomeAt m = _ := State.testOutcomeAt_of_running hr
  have hsensor := (State.mark_of_not_cold hc m).1
  simp only [testDecision_monitor, condHolds_monitorCond hi] at hout
  have hends {o : TestOutcome} (h : s.testOutcomeAt m = some (.monitor, o)) :
      (s.mark m).tests = ⟨none, some ⟨.monitor, o, some s.markEpoch⟩⟩ ∧ (s.mark m).sensor.forced = 0 := by
    refine ⟨(State.mark_tests_of_ends h).1, ?_⟩
    rw [hsensor, (State.markTested_of_ends h).2.1]
    rfl
  refine ⟨fun hb => hends ?_, fun hb hi9 => hends ?_, fun hb hlt => ?_⟩
  · rw [hout, hb]
    rfl
  · rw [hout, hb, if_pos rfl, if_pos (by omega)]
    rfl
  · rw [hb, if_pos rfl, if_neg (by omega)] at hout
    rw [(State.mark_tests_of_goes hr nofun hout (.inl hc)).1, hsensor, (State.markTested_of_goes hr nofun hout).2.1,
      TestRun.stepSensor]
    refine ⟨rfl, ?_⟩
    by_cases hodd : i % 2 = 1
    · rw [if_pos hodd, if_pos ⟨rfl, by simp only; omega⟩]
      exact condMask_monitorCond hlt hodd
    · rw [if_neg hodd, if_neg (fun h => by have := h.2; simp only at this; omega)]
      rfl

/-- PULSE at its mark i + 1, at a cold start too (R168). -/
theorem State.mark_pulse {s : State} {i left c : Nat} (m : MarkInputs) (hr : s.tests.running = some ⟨.pulse, i, left⟩)
    (hhold : s.emulator.testHold = some c) (hlt : c < s.emulator.perTurn) :
    (s.mark m).emulator.counter = s.emulator.counter ∧
    (i = 0 → (s.mark m).tests.running = some ⟨.pulse, 1, left - 1⟩ ∧
      (s.mark m).emulator.testHold = some ((c + 100) % s.emulator.perTurn)) ∧
    (i = 1 → m.countReadback.toNat = (s.emulator.counter + 100) % s.emulator.perTurn →
      (s.mark m).tests.running = some ⟨.pulse, 2, left - 1⟩ ∧ (s.mark m).emulator.testHold = some c) ∧
    (i = 1 → m.countReadback.toNat ≠ (s.emulator.counter + 100) % s.emulator.perTurn →
      (s.mark m).tests = ⟨none, some ⟨.pulse, .fail 2, some s.markEpoch⟩⟩ ∧ (s.mark m).emulator.testHold = none) ∧
    (i = 2 → (s.mark m).tests.running = some ⟨.pulse, 3, left - 1⟩ ∧
      (s.mark m).emulator.testHold = some ((c + s.emulator.perTurn - 100) % s.emulator.perTurn)) ∧
    (i = 3 → m.countReadback.toNat = s.emulator.counter →
      (s.mark m).tests = ⟨none, some ⟨.pulse, .pass, some s.markEpoch⟩⟩ ∧ (s.mark m).emulator.testHold = none) ∧
    (i = 3 → m.countReadback.toNat ≠ s.emulator.counter →
      (s.mark m).tests = ⟨none, some ⟨.pulse, .fail 4, some s.markEpoch⟩⟩ ∧ (s.mark m).emulator.testHold = none) := by
  have hout : s.testOutcomeAt m = _ := State.testOutcomeAt_of_running hr
  have hends {o : TestOutcome} (h : s.testOutcomeAt m = some (.pulse, o)) :
      (s.mark m).tests = ⟨none, some ⟨.pulse, o, some s.markEpoch⟩⟩ ∧ (s.mark m).emulator.testHold = none := by
    refine ⟨(State.mark_tests_of_ends h).1, ?_⟩
    rw [State.mark_emulator_of_ends h]
    exact s.emulator.unhold_testHold
  have hgoes (h : s.testOutcomeAt m = none) : (s.mark m).tests.running = some ⟨.pulse, i + 1, left - 1⟩ ∧
      (s.mark m).emulator = TestRun.stepEmulator ⟨.pulse, i, left⟩ s.emulator :=
    ⟨by rw [(State.mark_tests_of_goes hr nofun h (.inr rfl)).1], State.mark_emulator_of_goes hr nofun h⟩
  refine ⟨?_, ?_, ?_, ?_, ?_, ?_, ?_⟩
  · rcases s.markCourse m with ⟨r, o, -, -, -, h⟩ | ⟨r, hr', hv, -, h⟩ | ⟨hrest, -⟩
    · rw [State.mark_emulator_of_ends h, TestCode.endEmulator]
      split
      · exact s.emulator.unhold_counter
      · rfl
    · rw [State.mark_emulator_of_goes hr' hv h, TestRun.stepEmulator_eq]
    · rw [State.mark_emulator_of_rests m hrest]
  · rintro rfl
    obtain ⟨hrun, he⟩ := hgoes hout
    exact ⟨hrun, by rw [he]; exact PulseEmulator.moveTest_testHold hhold hlt true⟩
  · rintro rfl hread
    obtain ⟨hrun, he⟩ := hgoes (by rw [hout]; simp [testDecision, hread])
    exact ⟨hrun, by rw [he]; exact hhold⟩
  · rintro rfl hread
    exact hends (by rw [hout]; simp [testDecision, hread])
  · rintro rfl
    obtain ⟨hrun, he⟩ := hgoes hout
    exact ⟨hrun, by rw [he]; exact PulseEmulator.moveTest_testHold hhold hlt false⟩
  · rintro rfl hread
    exact hends (by rw [hout]; simp [testDecision, hread])
  · rintro rfl hread
    exact hends (by rw [hout]; simp [testDecision, hread])

theorem State.testOutcomeAt_of_rests {s : State} (h : ∀ r ∈ s.tests.running, r.code = .vote) (m : MarkInputs) :
    s.testOutcomeAt m = none := by
  cases hr : s.tests.running with
  | none => rw [State.testOutcomeAt, hr]
  | some r => rw [State.testOutcomeAt_of_running hr, h r hr]; rfl

/-- The end of a test at a mark: its records, its notices and SELFTEST (R132, R169). -/
theorem State.mark_of_end {s : State} {m : MarkInputs} {c : TestCode} {o : TestOutcome} {new : List EventRecord}
    (hout : s.testOutcomeAt m = some (c, o)) (ho : o = .pass ∨ ∃ n, o = .fail n) (hv : c ≠ .vote)
    (hperm : new.Perm (s.markBlocks m).flatten) :
    new.filter (fun e => e.kind = .testDone) = [evTestDone s.markEpoch c o] ∧
    (s.member.selfState = .active → c ≠ .pulse → ∃ e ∈ (s.mark m).line.notices, e.kind = .test ∧
      e.rounds = 0 ∧ e.argument = BitVec.ofNat 8 (c.code + 8 + 16 * o.code)) ∧
    (o = .pass → (s.mark m).faults.held.getLsbD 5 = s.faults.held.getLsbD 5 ∧
      evFaultHeld s.markEpoch .selfTest ∉ new) ∧
    (o ≠ .pass → (s.mark m).faults.held.getLsbD 5 = true ∧ (s.mark m).faults.flt = true ∧
      (evFaultHeld s.markEpoch .selfTest ∈ new ↔ s.faults.held.getLsbD 5 = false) ∧
      (s.member.selfState = .active → s.faults.held.getLsbD 5 = false → ∃ e ∈ (s.mark m).line.notices,
        e.kind = .fault ∧ e.argument = (reportedPart (s.mark m).faults.held).setWidth 8)) := by
  have hdone := State.mark_testDone hperm (State.mark_tests_of_ends hout).2
  have hmarks (hp : c ≠ .pulse) : c.marksSample = true := by
    cases c with
    | inject | monitor => rfl
    | vote => exact absurd rfl hv
    | pulse => exact absurd rfl hp
  rw [State.markDoneEvents, hout] at hdone
  rw [State.mem_mark_selfTest hperm, State.markFailEvents, hout, s.mark_faults]
  refine ⟨hdone, fun hactive hp => State.mark_endNotice hout hactive (hmarks hp), ?_, fun hbad => ?_⟩
  · rintro rfl
    rw [s.markFaults_selfTest, hout]
    exact ⟨rfl, List.not_mem_nil⟩
  · obtain ⟨n, rfl⟩ := ho.resolve_left hbad
    obtain ⟨hbit, hflt⟩ := State.markFaults_of_fail hout
    refine ⟨hbit, hflt, ?_, fun hactive hnew => ?_⟩
    · have hholds : holds s.faults.held .selfTest = s.faults.held.getLsbD 5 := rfl
      simp only [faultEvents, hholds]
      cases s.faults.held.getLsbD 5 <;> simp
    · rw [← s.mark_faults]
      exact State.mark_failNotice hout hactive hnew

/-- Settles O15: the courses of a mark's test step, and its records and notices. -/
theorem monitorAndPulseSteps : Obligations.MonitorAndPulseSteps := by
  intro m s i left hfree cold
  have hiff : cold ↔ s.coldStarts = true := s.coldStarts_iff.symm
  have hwarm (h : ¬cold) : s.coldStarts = false := Bool.eq_false_iff.2 (mt hiff.2 h)
  have hepoch := s.mark_epoch m
  refine ⟨s.mark m, exec_markRecognised hfree m, s.mark_emulator_of_no_pulse m, State.mark_emulator_hold,
    fun hrest => ⟨(State.mark_tests_of_rests m hrest).1, ?_, fun hroom => ?_⟩, fun hr hi hc => ?_,
    fun c hr hhold hlt => ?_, fun r hr hv hcourse hroom => ?_⟩
  · obtain hout : s.testOutcomeAt m = none := State.testOutcomeAt_of_rests hrest m
    rw [s.mark_faults, s.markFaults_selfTest, hout]
    rfl
  · obtain ⟨new, hnew, hperm, -⟩ := s.mark_events hroom m
    rw [hepoch]
    exact ⟨new, hnew, State.mark_of_no_end (State.testOutcomeAt_of_rests hrest m) hperm
      (State.mark_tests_of_rests m hrest).2⟩
  · rw [hepoch]
    exact State.mark_monitor m hr hi (hwarm hc)
  · rw [hepoch]
    exact State.mark_pulse m hr hhold hlt
  · obtain ⟨new, hnew, hperm, -⟩ := s.mark_events hroom m
    rw [hepoch]
    refine ⟨new, hnew, ?_⟩
    rcases s.markCourse m with ⟨r', o, hr', -, hd, hout⟩ | ⟨r', hr', -, -, hout⟩ | ⟨hrest, -⟩
    · obtain rfl := Option.some.inj (hr.symm.trans hr')
      have htests := (State.mark_tests_of_ends hout).1
      refine ⟨fun hrunning => absurd (by rw [htests]) hrunning, fun _ => ?_⟩
      exact ⟨o, testDecision_outcome hd, by rw [htests], State.mark_of_end hout (testDecision_outcome hd) hv hperm⟩
    · obtain rfl := Option.some.inj (hr.symm.trans hr')
      have hcold : s.coldStarts = false ∨ r.code = .pulse := hcourse.imp_left hwarm
      obtain ⟨htests, habort⟩ := State.mark_tests_of_goes hr hv hout hcold
      refine ⟨fun _ => State.mark_of_no_end hout hperm habort, fun hnone => ?_⟩
      rw [htests] at hnone
      cases hnone
    · exact absurd (hrest r hr) hv

end Sys2Proof.Machine
end

section
/-! SUPPORT. A close and its five steps of admission: what each leaves of the blocks it does not work on (R71 to R75, R81). -/

namespace Sys2Proof.Machine

/-- A close that is raised is admission on the closed state (R51, R71). -/
theorem exec_close {s : State} (hseen : s.timer.markSeen = true) (hself : s.member.selfState ≠ .lockout)
    (htime : ∃ o ∈ s.timer.origin, o + (16 + 144 * s.plan.n : Nat) ≤ s.clock)
    (hpos : s.timer.position = .mark ∨ ∃ k, s.timer.position = .slot k) :
    exec .close s = .next (s.closed.admission s.handsSent) := by
  have hbefore : s.timer.position.beforeClose = true := by
    rcases hpos with h | ⟨k, h⟩ <;> rw [h] <;> rfl
  rw [exec_eq_next]
  exact congrArg Host.Outcome.next
    (State.after_close_of_raised ⟨State.drawn_of hseen hself, hbefore, (s.reached_iff _).2 htime⟩)

/-! ### Step 1 by cases (R83) -/

/-- The state with an adopted epoch number, and RESYNC. -/
def State.resynced (s : State) (e : Epoch) : State :=
  ({ s with timer.epoch := e } : State).emit [evPlain .resync e]

/-- An ACTIVE station that adopts a number enters JOINING; any other takes it and goes on. -/
theorem State.adopt_cases (s : State) (e : Option Epoch) :
    e = none ∧ s.adopt e = s ∨
    (∃ v, e = some v ∧ s.member.selfState ≠ .active ∧ s.adopt e = s.resynced v) ∨
    ∃ v, e = some v ∧ s.member.selfState = .active ∧ s.adopt e = (s.resynced v).join := by
  cases e with
  | none => exact .inl ⟨rfl, rfl⟩
  | some v =>
    by_cases h : s.member.selfState = .active
    · exact .inr (.inr ⟨v, rfl, h, if_pos h⟩)
    · exact .inr (.inl ⟨v, rfl, h, if_neg h⟩)

/-! ### Steps that keep the self state -/

/-- Two states that differ in the members, the table, the records, the epoch number and the queue of the model alone. -/
structure SameButMembers (s t : State) : Prop where
  timer : t.timer = { s.timer with epoch := t.timer.epoch }
  line : t.line = s.line
  sensor : t.sensor = s.sensor
  faults : t.faults = s.faults
  store : t.store = s.store
  emulator : t.emulator = s.emulator
  tests : t.tests = s.tests
  clock : t.clock = s.clock

theorem SameButMembers.refl (s : State) : SameButMembers s s := ⟨rfl, rfl, rfl, rfl, rfl, rfl, rfl, rfl⟩

theorem SameButMembers.trans {s t u : State} (h : SameButMembers s t) (h' : SameButMembers t u) : SameButMembers s u where
  timer := by rw [h'.timer, h.timer]
  line := h'.line.trans h.line
  sensor := h'.sensor.trans h.sensor
  faults := h'.faults.trans h.faults
  store := h'.store.trans h.store
  emulator := h'.emulator.trans h.emulator
  tests := h'.tests.trans h.tests
  clock := h'.clock.trans h.clock

theorem State.resynced_same (s : State) (e : Epoch) : SameButMembers s (s.resynced e) := ⟨rfl, rfl, rfl, rfl, rfl, rfl, rfl, rfl⟩

theorem State.updatePeers_same (s : State) : SameButMembers s s.updatePeers := by
  obtain ⟨hclock, hline, htimer, hsensor, hfaults, hstore, hemulator, htests, -, -⟩ := s.updatePeers_kept
  exact ⟨by rw [htimer], hline, hsensor, hfaults, hstore, hemulator, htests, hclock⟩

theorem State.claims_deliver_same (s : State) (l : List AdmittedSample) : SameButMembers s (s.claims.deliver l) := by
  obtain ⟨hclock, hline, htimer, hsensor, hfaults, hstore, hemulator, htests, -, -⟩ := s.claims_kept
  refine ⟨?_, ?_, ?_, ?_, ?_, ?_, ?_, ?_⟩
  · rw [State.deliver_timer, htimer]
  · rw [State.deliver_line, hline]
  · rw [State.deliver_sensor, hsensor]
  · rw [State.deliver_faults, hfaults]
  · rw [State.deliver_store, hstore]
  · rw [State.deliver_emulator, hemulator]
  · rw [State.deliver_tests, htests]
  · rw [State.deliver_clock, hclock]

/-! ### Steps that may change it -/

/-- Two states that differ besides in what an entry to JOINING or LISTEN touches. -/
structure SameButEntry (s t : State) : Prop where
  timer : t.timer = { s.timer with
    epoch := t.timer.epoch, deadline := t.timer.deadline, listenTimer := t.timer.listenTimer }
  line : t.line = { s.line with markDrive := t.line.markDrive }
  sensor : t.sensor = { s.sensor with
    excitation := t.sensor.excitation, conv := t.sensor.conv, acqCount := t.sensor.acqCount
    window := t.sensor.window, forced := t.sensor.forced }
  store : t.store = s.store
  emulator : t.emulator = s.emulator
  clock : t.clock = s.clock

theorem SameButMembers.entry {s t : State} (h : SameButMembers s t) : SameButEntry s t where
  timer := by rw [h.timer]
  line := by rw [h.line]
  sensor := by rw [h.sensor]
  store := h.store
  emulator := h.emulator
  clock := h.clock

theorem SameButEntry.trans {s t u : State} (h : SameButEntry s t) (h' : SameButEntry t u) : SameButEntry s u where
  timer := by rw [h'.timer, h.timer]
  line := by rw [h'.line, h.line]
  sensor := by rw [h'.sensor, h.sensor]
  store := h'.store.trans h.store
  emulator := h'.emulator.trans h.emulator
  clock := h'.clock.trans h.clock

theorem State.join_sameButEntry (s : State) : SameButEntry s s.join := by
  obtain ⟨hline, hsensor, -, hemulator, -⟩ := s.enterJoining_blocks
  refine ⟨?_, ?_, ?_, ?_, hemulator, ?_⟩
  · rw [State.join, State.emit_timer, State.enterJoining_timer]
  · rw [State.join, State.emit_line, hline]
    split
    · rcases s.line.drive_cases false s.clock with ⟨-, h⟩ | ⟨-, h⟩ <;> rw [h]
    · rfl
  · rw [State.join, State.emit_sensor, hsensor]
  · rw [State.join, State.emit_store, State.enterJoining_store]
  · rw [State.join, State.emit_clock, State.enterJoining_clock]

theorem State.fallToListen_sameButEntry (s : State) : SameButEntry s s.fallToListen := ⟨rfl, rfl, rfl, rfl, rfl, rfl⟩

theorem State.emit_same (s : State) (es : List EventRecord) : SameButMembers s (s.emit es) :=
  ⟨rfl, rfl, rfl, rfl, rfl, rfl, rfl, rfl⟩

/-- What step 3 leaves alone in every self state but LOCKOUT, and altogether where the self state is kept or becomes ACTIVE. -/
theorem SelfTested.kept {s t : State} (h : SelfTested s t) :
    (t.member.selfState ≠ .lockout → SameButEntry s t) ∧
    (t.member.selfState = s.member.selfState ∨ t.member.selfState = .active → SameButMembers s t) ∧
    (t.member.selfState = .lockout → s.member.selfState ≠ .lockout → t = s.countMismatch.mismatchLockout) := by
  cases h with
  | same => exact ⟨fun _ => (SameButMembers.refl s).entry, fun _ => .refl s, fun hl hn => absurd hl hn⟩
  | mismatch hst =>
    have hself : s.countMismatch.mismatchLockout.member.selfState = .lockout := by
      rw [State.mismatchLockout, State.emit_member, State.emit_member, State.enterLockout_member]
    refine ⟨fun hn => absurd hself hn, fun hsame => ?_, fun _ _ => rfl⟩
    rw [hself, hst] at hsame
    rcases hsame with hsame | hsame <;> cases hsame
  | joins hst =>
    have hself : s.countMismatch.join.member.selfState = .joining := by
      rw [State.join, State.emit_member, State.enterJoining_member]
    have hcounted : SameButMembers s s.countMismatch := ⟨rfl, rfl, rfl, rfl, rfl, rfl, rfl, rfl⟩
    refine ⟨fun _ => hcounted.entry.trans s.countMismatch.join_sameButEntry, fun hsame => ?_, fun hl => ?_⟩
    · rw [hself, hst] at hsame
      rcases hsame with hsame | hsame <;> cases hsame
    · rw [hself] at hl
      cases hl
  | listens hst | counts hst | unheard hst =>
    refine ⟨fun _ => ⟨rfl, rfl, rfl, rfl, rfl, rfl⟩,
      fun _ => ⟨rfl, rfl, rfl, rfl, rfl, rfl, rfl, rfl⟩, fun hl hn => absurd hl hn⟩
  | activates hst =>
    exact ⟨fun _ => ⟨rfl, rfl, rfl, rfl, rfl, rfl⟩,
      fun _ => ⟨rfl, rfl, rfl, rfl, rfl, rfl, rfl, rfl⟩, nofun⟩
  | fails hst | falls hst =>
    refine ⟨fun _ => ⟨rfl, rfl, rfl, rfl, rfl, rfl⟩, fun hsame => ?_, nofun⟩
    rw [hst] at hsame
    rcases hsame with hsame | hsame <;> cases hsame

/-! ### The whole close -/

/-- The self state after a close is the one that step 3 leaves. -/
theorem State.admission_selfState (s : State) (sent : Bool) :
    (s.admission sent).member.selfState = (s.selfTested sent).member.selfState := by
  rw [State.admission_eq]
  split
  · rw [State.deliver_member, State.claims_selfState]
  · rfl

/-- Steps 4 and 5 (R81). -/
theorem State.admission_same (s : State) (sent : Bool) : SameButMembers (s.selfTested sent) (s.admission sent) := by
  rw [State.admission_eq]
  split
  · exact State.claims_deliver_same _ _
  · exact .refl _

/-- Steps 1 and 2, by whether an ACTIVE station adopts a number (R83, R92). -/
theorem State.peersUpdated_same (s : State) (sent : Bool) :
    ((s.peersUpdated sent).member.selfState = s.member.selfState ∧ SameButMembers s (s.peersUpdated sent)) ∨
    (s.member.selfState = .active ∧ (s.peersUpdated sent).member.selfState = .joining ∧
      SameButEntry s (s.peersUpdated sent)) := by
  unfold State.peersUpdated
  rcases s.adopt_cases (s.adoption sent) with ⟨-, heq⟩ | ⟨v, -, -, heq⟩ | ⟨v, -, hactive, heq⟩ <;> rw [heq]
  · exact .inl ⟨State.updatePeers_selfState _, State.updatePeers_same _⟩
  · exact .inl ⟨State.updatePeers_selfState _, (s.resynced_same v).trans (State.updatePeers_same _)⟩
  · refine .inr ⟨hactive, ?_, ((s.resynced_same v).entry.trans (State.join_sameButEntry _)).trans
      (State.updatePeers_same _).entry⟩
    rw [State.updatePeers_selfState, State.join, State.emit_member, State.enterJoining_member]

/-- An ACTIVE station that adopts a number takes no test of step 3: it is JOINING, and was not when the close was raised. -/
theorem State.selfTested_of_adopting {s : State} {sent : Bool} (hactive : s.member.selfState = .active)
    (hjoining : (s.peersUpdated sent).member.selfState = .joining) : s.selfTested sent = s.peersUpdated sent := by
  rw [State.selfTested, hactive]
  simp [State.testSelf, hjoining]

theorem State.selfTested_tested (s : State) (sent : Bool) : SelfTested (s.peersUpdated sent) (s.selfTested sent) := by
  unfold State.selfTested
  exact State.testSelf_tested ..

/-- What a close leaves alone in every self state but LOCKOUT, altogether where the self state is kept or becomes ACTIVE, and
the one way into LOCKOUT (R91, R100). -/
theorem State.admission_frame {s : State} (h : s.member.selfState ≠ .lockout) (sent : Bool) :
    ((s.admission sent).member.selfState ≠ .lockout → SameButEntry s (s.admission sent)) ∧
    ((s.admission sent).member.selfState = s.member.selfState ∨ (s.admission sent).member.selfState = .active →
      SameButMembers s (s.admission sent)) ∧
    ((s.admission sent).member.selfState = .lockout → ∃ p, SameButMembers s p ∧
      SameButMembers p.countMismatch.mismatchLockout (s.admission sent)) := by
  have hlast := s.admission_same sent
  have hself' := s.admission_selfState sent
  have htested := s.selfTested_tested sent
  have hadopting := State.selfTested_of_adopting (s := s) (sent := sent)
  have hpeersUpdated := s.peersUpdated_same sent
  generalize s.admission sent = t at *
  generalize s.selfTested sent = q at *
  generalize s.peersUpdated sent = p at *
  rw [hself']
  rcases hpeersUpdated with ⟨hself, hpeers⟩ | ⟨hactive, hself, hpeers⟩
  · obtain ⟨hentry, hsame, hlock⟩ := htested.kept
    rw [hself] at hsame hlock
    refine ⟨fun hn => (hpeers.entry.trans (hentry hn)).trans hlast.entry, fun hk => (hpeers.trans (hsame hk)).trans hlast,
      fun hl => ⟨p, hpeers, ?_⟩⟩
    rw [← hlock hl h]
    exact hlast
  · obtain rfl : q = p := hadopting hactive hself
    refine ⟨fun _ => hpeers.trans hlast.entry, fun hk => ?_, fun hl => ?_⟩
    · rw [hself, hactive] at hk
      rcases hk with hk | hk <;> cases hk
    · rw [hself] at hl
      cases hl

end Sys2Proof.Machine
end

section
/-! SUPPORT. The heard set and the counts of a close, and what it leaves as it was (R71 to R75). -/

namespace Sys2Proof.Machine

/-- The entry to LOCKOUT by PLAN_MISMATCH at the blocks other than the members, the table and the faults (R91, R100, R170). -/
theorem State.mismatchLockout_blocks (s : State) :
    s.mismatchLockout.line = { s.line with notices := [], noticeSend := .idle, receiver := .off, awaiting := false } ∧
    s.mismatchLockout.timer = { s.timer with position := .none, roundOpen := false, deadline := none } ∧
    s.mismatchLockout.sensor = { s.sensor with forced := if s.tests.runs .monitor then 0 else s.sensor.forced } ∧
    s.mismatchLockout.store = s.store ∧ s.mismatchLockout.clock = s.clock ∧
    s.mismatchLockout.emulator = (if s.tests.runs .pulse then s.emulator.unhold else s.emulator) := by
  obtain ⟨-, hsensor, hemulator, -⟩ := ((s.setListenRun 0).setFault .planMismatch).enterLockout_rest
  refine ⟨?_, ?_, ?_, ?_, ?_, ?_⟩
  · rw [State.mismatchLockout, State.emit_line, State.emit_line, State.enterLockout_line]
    rfl
  · rw [State.mismatchLockout, State.emit_timer, State.emit_timer, State.enterLockout_timer]
    rfl
  · rw [State.mismatchLockout, State.emit_sensor, State.emit_sensor, hsensor]
    rfl
  · rw [State.mismatchLockout, State.emit_store, State.emit_store, State.enterLockout_store]
    rfl
  · rw [State.mismatchLockout, State.emit_clock, State.emit_clock, State.enterLockout_clock]
    rfl
  · rw [State.mismatchLockout, State.emit_emulator, State.emit_emulator, hemulator]
    rfl

theorem SlotRecord.frame?_eq_some {r : SlotRecord} {f : FrameRecord} : r.frame? = some f ↔ r = .valid f := by
  cases r <;> simp [SlotRecord.frame?]

/-- A slot's record in a buffer of sixteen. -/
theorem LineController.record_eq_valid {l : LineController} (hlen : l.buffer.length = 16) {k : Station} {f : FrameRecord} :
    l.record k = .valid f ↔ l.buffer[k.toNat]? = some (.valid f) := by
  have hk : k.toNat < l.buffer.length := by rw [hlen]; exact k.isLt
  rw [LineController.record, List.getD_eq_getElem?_getD, List.getElem?_eq_getElem hk]
  simp

/-- The heard set that a close latches is the set of stations whose records are valid (R73, R74). -/
theorem LineController.validStations_getLsbD {l : LineController} (hlen : l.buffer.length = 16) (k : Station) :
    l.validStations.getLsbD k.toNat = true ↔ ∃ f, l.buffer[k.toNat]? = some (.valid f) := by
  rw [LineController.validStations, stationSet_getLsbD, List.mem_filter, Option.isSome_iff_exists]
  simp only [mem_allStations, true_and, SlotRecord.frame?_eq_some, LineController.record_eq_valid hlen]

/-- A close that ends in LOCKOUT, at the same blocks. -/
theorem SameButMembers.of_lockout {s p t : State} (hp : SameButMembers s p)
    (h : SameButMembers p.countMismatch.mismatchLockout t) :
    t.line = { s.line with notices := [], noticeSend := .idle, receiver := .off, awaiting := false } ∧
    t.timer = { s.timer with epoch := t.timer.epoch, position := .none, roundOpen := false, deadline := none } ∧
    t.sensor = { s.sensor with forced := t.sensor.forced } ∧ t.store = s.store ∧ t.clock = s.clock ∧
    (s.tests.runs .pulse = false → t.emulator = s.emulator) := by
  have hcount : SameButMembers p p.countMismatch := ⟨rfl, rfl, rfl, rfl, rfl, rfl, rfl, rfl⟩
  have hs := hp.trans hcount
  obtain ⟨hline, htimer, hsensor, hstore, hclock, hemulator⟩ := p.countMismatch.mismatchLockout_blocks
  generalize p.countMismatch.mismatchLockout = q at *
  generalize p.countMismatch = r at *
  refine ⟨?_, ?_, ?_, ?_, ?_, fun hpulse => ?_⟩
  · rw [h.line, hline, hs.line]
  · rw [h.timer, htimer, hs.timer]
  · rw [h.sensor, hsensor, hs.sensor]
  · rw [h.store, hstore, hs.store]
  · rw [h.clock, hclock, hs.clock]
  · rw [h.emulator, hemulator, hs.tests, hpulse, hs.emulator]
    rfl

/-- Settles O22: the closed line, and what admission leaves of it, in LOCKOUT and elsewhere. -/
theorem closeLatchesHeardSetAndCounts : Obligations.CloseLatchesHeardSetAndCounts := by
  intro s hseen hself htime hpos hlen
  refine ⟨_, exec_close hseen hself htime hpos, ?_⟩
  have hclosed : s.closed.member.selfState ≠ .lockout := hself
  have hframe := State.admission_frame hclosed s.handsSent
  generalize s.closed.admission s.handsSent = t at hframe
  obtain ⟨hentry, hsame, hlock⟩ := hframe
  have hheard := LineController.validStations_getLsbD hlen
  by_cases hl : t.member.selfState = .lockout
  · obtain ⟨p, hp, hlast⟩ := hlock hl
    obtain ⟨hline, htimer, hsensor, hstore, hclock, hemulator⟩ := hp.of_lockout hlast
    clear hentry hsame hlock hp hlast
    rw [hline, htimer, hsensor]
    refine ⟨hheard, rfl, rfl, rfl, rfl, rfl, hstore, rfl, ?_, fun hq => ?_, hclock, rfl, hseen, rfl, rfl, rfl, rfl, rfl, rfl,
      fun hn => absurd hl hn, fun hk => ?_⟩
    · rw [if_pos hl]
    · exact hemulator (hq.resolve_left (not_not.2 hl))
    · rw [hl] at hk
      rcases hk with hk | hk
      · exact absurd hk.symm hself
      · cases hk
  · obtain ⟨htimer, hline, hsensor, hstore, hemulator, hclock⟩ := hentry hl
    refine ⟨?_, ?_, ?_, ?_, ?_, ?_, hstore, ?_, ?_, fun _ => hemulator, hclock, ?_, ?_, ?_, ?_, ?_, ?_, ?_, ?_,
      fun _ => ⟨?_, ?_, ?_, ?_⟩, fun hk => ?_⟩
    · rw [hline]
      exact hheard
    · rw [hline]; rfl
    · rw [hline]; rfl
    · rw [hline]; rfl
    · rw [hline]; rfl
    · rw [hsensor]; rfl
    · rw [htimer]; rfl
    · rw [htimer, if_neg hl]; rfl
    · rw [htimer]; rfl
    · rw [htimer]; exact hseen
    · rw [htimer]; rfl
    · rw [htimer]; rfl
    · rw [hsensor]; rfl
    · rw [hsensor]; rfl
    · rw [hsensor]; rfl
    · rw [hline]; rfl
    · rw [hline]; rfl
    · rw [hline]; rfl
    · rw [htimer]; rfl
    · rw [hline]; rfl
    · obtain ⟨htimer, hline, hsensor, hfaults, -, -, htests, -⟩ := hsame hk
      refine ⟨htimer, ?_, hsensor, hfaults, htests⟩
      rw [hline]
      rfl

end Sys2Proof.Machine
end

section
/-! SUPPORT. The epoch majority rule (R71, R72, R82, R83). -/

namespace Sys2Proof.Machine

/-! ### The winning value (R82) -/

theorem le_foldl_max (l : List Nat) (a : Nat) : a ≤ l.foldl max a ∧ ∀ x ∈ l, x ≤ l.foldl max a := by
  induction l generalizing a with
  | nil => exact ⟨le_rfl, nofun⟩
  | cons y ys ih =>
    obtain ⟨hstart, hall⟩ := ih (max a y)
    refine ⟨(Nat.le_max_left a y).trans hstart, fun x hx => ?_⟩
    rcases List.mem_cons.1 hx with rfl | hx
    · exact (Nat.le_max_right a x).trans hstart
    · exact hall x hx

theorem foldl_max_mem (l : List Nat) (a : Nat) : l.foldl max a = a ∨ l.foldl max a ∈ l := by
  induction l generalizing a with
  | nil => exact .inl rfl
  | cons y ys ih =>
    rcases ih (max a y) with h | h
    · rw [List.foldl_cons, h]
      rcases Nat.le_total a y with hle | hle
      · rw [Nat.max_eq_right hle]
        exact .inr List.mem_cons_self
      · exact .inl (Nat.max_eq_left hle)
    · exact .inr (List.mem_cons_of_mem y h)

theorem carrierCount_le_greatest {cs : List (Station × Epoch)} {c : Station × Epoch} (h : c ∈ cs) :
    carrierCount cs c.2 ≤ greatestCount cs :=
  (le_foldl_max _ 0).2 _ (List.mem_map.2 ⟨c, h, rfl⟩)

theorem exists_greatestCount {cs : List (Station × Epoch)} (h : cs ≠ []) : ∃ c ∈ cs, carrierCount cs c.2 = greatestCount cs := by
  rcases foldl_max_mem (cs.map fun c => carrierCount cs c.2) 0 with h0 | hmem
  · obtain ⟨c, hc⟩ := List.exists_mem_of_ne_nil cs h
    have hle : carrierCount cs c.2 ≤ 0 := h0 ▸ carrierCount_le_greatest hc
    exact ⟨c, hc, by rw [greatestCount, h0]; omega⟩
  · obtain ⟨c, hc, heq⟩ := List.mem_map.1 hmem
    exact ⟨c, hc, heq⟩

/-- The winner: the value of the first carrier whose value has the greatest count. -/
theorem majority_spec {cs : List (Station × Epoch)} (h : cs ≠ []) : ∃ as w bs, cs = as ++ w :: bs ∧
    majority cs = some w.2 ∧ (∀ c ∈ cs, carrierCount cs c.2 ≤ carrierCount cs w.2) ∧
      ∀ c ∈ as, carrierCount cs c.2 ≠ carrierCount cs w.2 := by
  obtain ⟨c, hc, hmax⟩ := exists_greatestCount h
  obtain ⟨w, hw⟩ := Option.isSome_iff_exists.1 (List.find?_isSome (xs := cs)
    (p := fun c => carrierCount cs c.2 == greatestCount cs) |>.2 ⟨c, hc, by simpa using hmax⟩)
  obtain ⟨hbest, as, bs, hsplit, hbefore⟩ := List.find?_eq_some_iff_append.1 hw
  have hbest : carrierCount cs w.2 = greatestCount cs := by simpa using hbest
  refine ⟨as, w, bs, hsplit, by rw [majority, hw]; rfl, fun c hc => ?_, fun c hc heq => ?_⟩
  · rw [hbest]
    exact carrierCount_le_greatest hc
  · have hnot := hbefore c hc
    rw [heq, hbest] at hnot
    simp at hnot

theorem majority_nil : majority [] = none := rfl

/-! ### The carriers of a close (R71, R72) -/

/-- What a station carries: a valid record's number, and the own number when the own frame counts as sent. -/
def State.carries (s : State) (sent : Bool) (k : Station) : Option Epoch :=
  if k = s.member.ownStation then (if sent = true then some s.timer.epoch else none)
  else (s.line.record k).frame?.map FrameRecord.epoch

/-- The carriers in ascending station number, where no record stands in the own slot (R69). -/
theorem State.carriers_eq {s : State} (hown : ∀ f, s.line.record s.member.ownStation ≠ .valid f) (sent : Bool) :
    s.carriers sent = allStations.filterMap fun k => (s.carries sent k).map fun e => (k, e) := by
  rw [State.carriers, List.filterMap_eq_flatMap_toList]
  refine List.flatMap_congr fun k _ => ?_
  unfold State.carries
  by_cases hk : k = s.member.ownStation
  · have hnone : (s.line.record k).frame? = none := by
      rw [Option.eq_none_iff_forall_ne_some]
      intro f hf
      exact hown f (hk ▸ SlotRecord.frame?_eq_some.1 hf)
    rw [hnone]
    cases sent <;> simp [hk]
  · simp [hk]
    rfl

theorem allStations_ascend : allStations.Pairwise fun j k => j.toNat < k.toNat := by decide

theorem State.mem_carriers {s : State} (hown : ∀ f, s.line.record s.member.ownStation ≠ .valid f) {sent : Bool}
    {k : Station} {e : Epoch} : (k, e) ∈ s.carriers sent ↔ s.carries sent k = some e := by
  rw [State.carriers_eq hown, List.mem_filterMap]
  constructor
  · rintro ⟨j, -, hj⟩
    obtain ⟨e', he', heq⟩ := Option.map_eq_some_iff.1 hj
    obtain ⟨rfl, rfl⟩ := Prod.mk.inj heq
    exact he'
  · exact fun h => ⟨k, mem_allStations k, by rw [h]; rfl⟩

theorem State.carriers_ascend {s : State} (hown : ∀ f, s.line.record s.member.ownStation ≠ .valid f) (sent : Bool) :
    (s.carriers sent).Pairwise fun c d => c.1.toNat < d.1.toNat := by
  rw [State.carriers_eq hown]
  refine List.Pairwise.filterMap _ (fun j k hjk c hc d hd => ?_) allStations_ascend
  obtain ⟨-, -, rfl⟩ := Option.map_eq_some_iff.1 hc
  obtain ⟨-, -, rfl⟩ := Option.map_eq_some_iff.1 hd
  exact hjk

/-- How many stations carry a value. -/
theorem State.carrierCount_eq {s : State} (hown : ∀ f, s.line.record s.member.ownStation ≠ .valid f) (sent : Bool)
    (e : Epoch) : carrierCount (s.carriers sent) e = (allStations.filter fun k => s.carries sent k = some e).length := by
  rw [carrierCount, State.carriers_eq hown, List.countP_filterMap, ← List.countP_eq_length_filter]
  refine List.countP_congr fun k _ => ?_
  cases s.carries sent k <;> simp

/-! ### The number after a close (R83) -/

theorem SelfTested.epoch {s t : State} (h : SelfTested s t) : t.timer.epoch = s.timer.epoch := by
  cases h with
  | mismatch => rw [s.countMismatch.mismatchLockout_blocks.2.1]; rfl
  | joins => rw [State.join, State.emit_timer, State.enterJoining_timer]; rfl
  | same | listens | activates | fails | counts | falls | unheard => rfl

/-- Adoption sets the number, and the steps after it keep it. -/
theorem State.peersUpdated_epoch (s : State) (sent : Bool) :
    (s.peersUpdated sent).timer.epoch = (s.adoption sent).getD s.timer.epoch := by
  obtain ⟨-, -, htimer, -⟩ := (s.adopt (s.adoption sent)).updatePeers_kept
  rw [State.peersUpdated, htimer]
  rcases s.adopt_cases (s.adoption sent) with ⟨he, heq⟩ | ⟨v, he, -, heq⟩ | ⟨v, he, -, heq⟩ <;> rw [heq, he]
  · rfl
  · rfl
  · rw [State.join, State.emit_timer, State.enterJoining_timer]
    rfl

theorem State.selfTested_epoch (s : State) (sent : Bool) :
    (s.selfTested sent).timer.epoch = (s.adoption sent).getD s.timer.epoch := by
  rw [(s.selfTested_tested sent).epoch, s.peersUpdated_epoch]

theorem State.admission_epoch (s : State) (sent : Bool) :
    (s.admission sent).timer.epoch = (s.adoption sent).getD s.timer.epoch := by
  rw [← s.selfTested_epoch, State.admission_eq]
  split
  · rw [State.deliver_timer, (State.claims_kept _).2.2.1]
  · rfl

theorem State.adoption_getD (s : State) (sent : Bool) :
    (s.adoption sent).getD s.timer.epoch = (majority (s.carriers sent)).getD s.timer.epoch := by
  rw [State.adoption]
  cases majority (s.carriers sent) with
  | none => rfl
  | some e => by_cases h : e = s.timer.epoch <;> simp [Option.filter, h]

/-- Settles O23: the winner among the carriers of the close is the number after it. -/
theorem closeAdoptsMajorityEpoch : Obligations.CloseAdoptsMajorityEpoch := by
  intro s hseen hself htime hpos hown
  refine ⟨s.handsSent, fun h => ?_, fun hout h => ?_, ?_⟩
  · obtain ⟨hout, hsends⟩ := s.sent_of_handsSent h
    exact ⟨hout, (SelfState.sends_iff _).1 hsends⟩
  · refine s.handsSent_of_sent hout ((SelfState.sends_iff _).2 ?_) ?_
    · rcases h with h | h | ⟨h, -⟩
      · exact .inl h
      · exact .inr (.inl h)
      · exact .inr (.inr h)
    · rcases h with h | h | ⟨h, hl⟩ <;> simp [State.sentAfterLeaving, h]
      exact fun _ => hl
  intro carries count
  refine ⟨_, exec_close hseen hself htime hpos, ?_⟩
  have hcarries (k : Station) : s.closed.carries s.handsSent k = carries k := rfl
  have hown' : ∀ f, s.closed.line.record s.closed.member.ownStation ≠ .valid f := hown
  have hepoch : (s.closed.admission s.handsSent).timer.epoch =
      (majority (s.closed.carriers s.handsSent)).getD s.timer.epoch :=
    (s.closed.admission_epoch s.handsSent).trans (s.closed.adoption_getD s.handsSent)
  have hcount (e : Epoch) : carrierCount (s.closed.carriers s.handsSent) e = count e :=
    State.carrierCount_eq hown' s.handsSent e
  have hmem (k : Station) (e : Epoch) : (k, e) ∈ s.closed.carriers s.handsSent ↔ carries k = some e :=
    State.mem_carriers hown'
  have hascend := State.carriers_ascend hown' s.handsSent
  generalize s.closed.carriers s.handsSent = cs at *
  rw [hepoch]
  refine ⟨fun hnone => ?_, fun k e hk => ?_⟩
  · have hempty : cs = [] := List.eq_nil_iff_forall_not_mem.2 fun c hc => by
      have := (hmem c.1 c.2).1 hc
      rw [hnone] at this
      cases this
    rw [hempty]
    rfl
  · have hke := (hmem k e).2 hk
    obtain ⟨as, w, bs, hsplit, hwin, hbest, hbefore⟩ := majority_spec (List.ne_nil_of_mem hke)
    rw [hwin, Option.getD_some, ← hcount, ← hcount]
    refine ⟨hbest _ hke, fun heq => ⟨w.1, (hmem w.1 w.2).1 (by rw [hsplit]; simp), ?_⟩⟩
    rw [hsplit] at hke hascend
    rcases List.mem_append.1 hke with hin | hin
    · exact absurd heq (hbefore _ hin)
    · rcases List.mem_cons.1 hin with heq | hin
      · rw [← heq]
      · exact ((List.pairwise_cons.1 (List.pairwise_append.1 hascend).2.1).1 _ hin).le

end Sys2Proof.Machine
end

section
/-! SUPPORT. Step 2 of admission: the Peer Table, the rows that lost and moved peers leave, and the records (R84 to R87). -/

namespace Sys2Proof.Machine

/-! ### A pass over the stations (R81) -/

theorem mem_take_allStations : ∀ n : Fin 17, ∀ k : Station, k ∈ allStations.take n ↔ k.toNat < n := by decide

theorem allStations_take_succ : ∀ k : Station, allStations.take (k.toNat + 1) = allStations.take k.toNat ++ [k] := by decide

/-- A pass over the stations in ascending order, by what it leaves after the stations below a number. -/
theorem foldl_allStations {α : Type} {f : α → Station → α} {P : α → Nat → Prop} {x : α} (h0 : P x 0)
    (hstep : ∀ (y : α) (k : Station), P y k.toNat → P (f y k) (k.toNat + 1)) : P (allStations.foldl f x) 16 := by
  have hall : ∀ n ≤ 16, P ((allStations.take n).foldl f x) n := by
    intro n hn
    induction n with
    | zero => exact h0
    | succ n ih =>
      have hk : (BitVec.ofNat 4 n).toNat = n := by
        rw [BitVec.toNat_ofNat]
        exact Nat.mod_eq_of_lt (by omega)
      have htake := allStations_take_succ (BitVec.ofNat 4 n)
      have hpass := hstep _ (BitVec.ofNat 4 n) (hk.symm ▸ ih (by omega))
      rw [hk] at htake hpass
      rw [htake, List.foldl_append]
      exact hpass
  exact hall 16 le_rfl

/-! ### Rows that several stations leave (R12) -/

/-- A row without the sources of some stations: UNBOUND where none is left. -/
def Row.without (r : Row) (gone : Station → Bool) : Row := { r with
  sources := r.sources.filter fun src => !gone src.station
  state := if (r.sources.filter fun src => !gone src.station) = [] then .unbound else r.state }

theorem Row.without_none {r : Row} (hr : r.consistent) {gone : Station → Bool} (h : ∀ k, gone k = false) :
    r.without gone = r := by
  have hall : (r.sources.filter fun src => !gone src.station) = r.sources := List.filter_eq_self.2 fun src _ => by simp [h]
  rw [Row.without, hall]
  split
  · next hnil => rw [← hr.2 hnil]
  · rfl

theorem Row.without_released (r : Row) (gone : Station → Bool) (k : Station) :
    (r.without gone).released k = r.without fun j => gone j || j == k := by
  have hsources : ((r.without gone).sources.filter fun src => src.station ≠ k) =
      r.sources.filter fun src => !(gone src.station || src.station == k) := by
    rw [Row.without, List.filter_filter]
    refine List.filter_congr fun src _ => ?_
    cases gone src.station <;> simp [beq_eq_decide]
  have hstate : (if (r.without gone).has k = true ∧ (r.sources.filter fun src => !(gone src.station || src.station == k)) = []
        then RowState.unbound else (r.without gone).state) =
      if (r.sources.filter fun src => !(gone src.station || src.station == k)) = [] then .unbound else r.state := by
    by_cases hlast : (r.sources.filter fun src => !(gone src.station || src.station == k)) = []
    · rw [if_pos hlast]
      by_cases hhas : (r.without gone).has k = true
      · exact if_pos ⟨hhas, hlast⟩
      · rw [if_neg (fun h => hhas h.1)]
        refine if_pos ?_
        rw [← hlast, ← hsources]
        exact (Row.filter_station_of_not_has (by simpa using hhas)).symm
    · rw [if_neg (fun h => hlast h.2), if_neg hlast]
      refine if_neg fun hnil => hlast ?_
      rw [← hsources]
      show List.filter _ (List.filter _ _) = []
      rw [hnil]
      rfl
  rw [Row.released_eq, hsources, hstate]
  rfl

theorem Row.without_congr (r : Row) {gone gone' : Station → Bool} (h : ∀ k, gone k = gone' k) :
    r.without gone = r.without gone' := by rw [funext h]

theorem Row.without_has (r : Row) (gone : Station → Bool) (k : Station) :
    (r.without gone).has k = (r.has k && !gone k) := by
  rw [Bool.eq_iff_iff, Row.has_iff, Bool.and_eq_true, Row.has_iff]
  simp only [Row.without, List.mem_filter]
  constructor
  · rintro ⟨src, ⟨hmem, hg⟩, rfl⟩
    exact ⟨⟨src, hmem, rfl⟩, hg⟩
  · rintro ⟨⟨src, hmem, rfl⟩, hg⟩
    exact ⟨src, ⟨hmem, hg⟩, rfl⟩

/-! ### One station (R84 to R87) -/

/-- An entry at a close without an admitted frame (Table 5-7). -/
def PeerEntry.missed (p : PeerEntry) : PeerEntry :=
  match p.state with
  | .absent => p
  | .new => p.lose
  | .present => { p with state := .silent, missRun := 1 }
  | .silent => if 3 ≤ p.missRun then p.lose else { p with missRun := p.missRun + 1 }

/-- An entry after step 2, from the frame admitted. -/
def State.entryAfter (s : State) (k : Station) : PeerEntry :=
  if k = s.member.ownStation ∨ s.plan.n ≤ k.toNat then s.member.peer k
  else match s.admitted k with
    | some f => (s.member.peer k).heardAs f
    | none => (s.member.peer k).missed

/-- Whether step 2 unbinds a station: a bound peer that changes its axis or is lost (R86, R87). -/
def State.leavesRow (s : State) (k : Station) : Bool :=
  k != s.member.ownStation && decide (k.toNat < s.plan.n) && (s.member.peer k).bound &&
    match s.admitted k with
    | some f => (s.member.peer k).axis != f.axis
    | none => (s.member.peer k).state == .silent && decide (3 ≤ (s.member.peer k).missRun)

/-- The records of step 2 at a station, with those of its unbind where it leaves a row. -/
def State.peerRecords (s : State) (k : Station) (unbound : List EventRecord) : List EventRecord :=
  if k = s.member.ownStation ∨ s.plan.n ≤ k.toNat then []
  else match s.admitted k with
    | some f => unbound ++ if (s.member.peer k).state = .new then [evStationAxis .peerJoined s.timer.epoch k f.axis] else []
    | none => (if (s.member.peer k).state = .silent ∧ 3 ≤ (s.member.peer k).missRun
        then [evStation .peerLost s.timer.epoch k] else []) ++ unbound

/-- The Peer Table's step at a station, block by block. -/
structure PeerStepped (x y : State) (k : Station) : Prop where
  timer : y.timer = x.timer
  line : y.line = x.line
  member : y.member = { x.member with peers := y.member.peers }
  peer : ∀ j, y.member.peer j = if j = k then x.entryAfter k else x.member.peer j
  engine : y.engine = { x.engine with
    rows := if x.leavesRow k then (unbindRows x.timer.epoch x.engine.rows k).1 else x.engine.rows }
  port : y.port = x.port.appendAll (x.peerRecords k
    (if x.leavesRow k then (unbindRows x.timer.epoch x.engine.rows k).2 else []))

theorem State.hearPeer_blocks (s : State) (k : Station) (f : FrameRecord) :
    (s.hearPeer k f).timer = s.timer ∧ (s.hearPeer k f).line = s.line ∧ (s.hearPeer k f).port = s.port.appendAll
      ((if (s.member.peer k).changesAxis f = true ∧ (s.member.peer k).bound = true
          then (unbindRows s.timer.epoch s.engine.rows k).2 else []) ++
        if (s.member.peer k).state = .new then [evStationAxis .peerJoined s.timer.epoch k f.axis] else []) := by
  simp only [State.hearPeer]
  repeat' split
  all_goals simp [State.unbindPeer, State.emit, LocalPort.appendAll_append, LocalPort.appendAll_nil]

theorem State.entryAfter_eq (s : State) {k : Station} (hk : ¬(k = s.member.ownStation ∨ s.plan.n ≤ k.toNat)) :
    s.entryAfter k = match s.admitted k with
      | some f => (s.member.peer k).heardAs f
      | none => (s.member.peer k).missed := if_neg hk

theorem State.leavesRow_of_kept {s : State} {k : Station} (hk : k = s.member.ownStation ∨ s.plan.n ≤ k.toNat) :
    s.leavesRow k = false := by
  unfold State.leavesRow
  rcases hk with rfl | hk
  · simp
  · simp [Nat.not_lt.2 hk]

theorem State.leavesRow_of_heard {s : State} (h : s.Listing) {k : Station} {f : FrameRecord}
    (hk : ¬(k = s.member.ownStation ∨ s.plan.n ≤ k.toNat)) (hf : s.admitted k = some f) :
    s.leavesRow k = true ↔ (s.member.peer k).changesAxis f = true ∧ (s.member.peer k).bound = true := by
  obtain ⟨hown, hn⟩ := not_or.1 hk
  simp only [State.leavesRow, hf, PeerEntry.changesAxis, Bool.and_eq_true, bne_iff_ne, decide_eq_true_eq]
  constructor
  · rintro ⟨⟨-, hb⟩, hax⟩
    exact ⟨⟨h.states.2 k hown hb, hax⟩, hb⟩
  · rintro ⟨⟨-, hax⟩, hb⟩
    exact ⟨⟨⟨hown, Nat.lt_of_not_le hn⟩, hb⟩, hax⟩

theorem State.leavesRow_of_missed {s : State} {k : Station} (hk : ¬(k = s.member.ownStation ∨ s.plan.n ≤ k.toNat))
    (hf : s.admitted k = none) : s.leavesRow k = true ↔
      (s.member.peer k).bound = true ∧ (s.member.peer k).state = .silent ∧ 3 ≤ (s.member.peer k).missRun := by
  obtain ⟨hown, hn⟩ := not_or.1 hk
  simp only [State.leavesRow, hf, Bool.and_eq_true, bne_iff_ne, decide_eq_true_eq, beq_iff_eq]
  constructor
  · rintro ⟨⟨-, hb⟩, hs⟩
    exact ⟨hb, hs⟩
  · rintro ⟨hb, hs⟩
    exact ⟨⟨⟨hown, Nat.lt_of_not_le hn⟩, hb⟩, hs⟩

theorem MembershipUnit.setPeer_self {m : MembershipUnit} (hlen : m.peers.length = 16) (k : Station) :
    m.setPeer k (m.peer k) = m := by
  have hk : k.toNat < m.peers.length := by rw [hlen]; exact k.isLt
  have hget : m.peers.getD k.toNat PeerEntry.cleared = m.peers[k.toNat] := by
    rw [List.getD_eq_getElem?_getD, List.getElem?_eq_getElem hk, Option.getD_some]
  rw [MembershipUnit.setPeer, MembershipUnit.peer, hget, List.set_getElem_self]

theorem PeerState.exhausted (st : PeerState) : st = .absent ∨ st = .new ∨ st = .present ∨ st = .silent := by
  cases st <;> simp

/-- A close without an admitted frame, block by block (R86). -/
theorem State.missPeer_blocks (s : State) (hlen : s.member.peers.length = 16) (k : Station) :
    let lost := (s.member.peer k).state = .silent ∧ 3 ≤ (s.member.peer k).missRun
    let leaves := lost ∧ (s.member.peer k).bound = true
    (s.missPeer k).timer = s.timer ∧ (s.missPeer k).line = s.line ∧
    (s.missPeer k).member = s.member.setPeer k (s.member.peer k).missed ∧
    (s.missPeer k).engine = { s.engine with
      rows := if leaves then (unbindRows s.timer.epoch s.engine.rows k).1 else s.engine.rows } ∧
    (s.missPeer k).port = s.port.appendAll ((if lost then [evStation .peerLost s.timer.epoch k] else []) ++
      if leaves then (unbindRows s.timer.epoch s.engine.rows k).2 else []) := by
  intro lost leaves
  rcases (s.member.peer k).state.exhausted with hs | hs | hs | hs
  · have hmissed : (s.member.peer k).missed = s.member.peer k := by rw [PeerEntry.missed, hs]
    rw [hmissed, MembershipUnit.setPeer_self hlen]
    simp [State.missPeer, hs, lost, leaves]
  · simp [State.missPeer, PeerEntry.missed, hs, lost, leaves]
  · simp [State.missPeer, PeerEntry.missed, hs, lost, leaves]
  · by_cases hrun : 3 ≤ (s.member.peer k).missRun
    · rcases Bool.eq_false_or_eq_true (s.member.peer k).bound with hb | hb <;>
        simp [State.missPeer, PeerEntry.missed, hs, hrun, hb, lost, leaves, State.unbindPeer, State.emit]
    · simp [State.missPeer, PeerEntry.missed, hs, hrun, lost, leaves]

theorem PeerStepped.of_setPeer {x y : State} (h : x.Listing) {k : Station} {p : PeerEntry}
    (hp : p = x.entryAfter k) (hm : y.member = x.member.setPeer k p) :
    y.member = { x.member with peers := y.member.peers } ∧
      ∀ j, y.member.peer j = if j = k then x.entryAfter k else x.member.peer j := by
  rw [hm]
  exact ⟨rfl, fun j => by rw [MembershipUnit.peer_setPeer h.peers_length, hp]⟩

theorem State.updatePeer_stepped {x : State} (h : x.Listing) (k : Station) : PeerStepped x (x.updatePeer k) k := by
  unfold State.updatePeer
  by_cases hk : k = x.member.ownStation ∨ x.plan.n ≤ k.toNat
  · have hentry : x.entryAfter k = x.member.peer k := if_pos hk
    have hrecords (l : List EventRecord) : x.peerRecords k l = [] := if_pos hk
    rw [if_pos hk]
    refine ⟨rfl, rfl, rfl, fun j => ?_, ?_, ?_⟩
    · split
      · next hj => rw [hj, hentry]
      · rfl
    · rw [State.leavesRow_of_kept hk]
      rfl
    · rw [hrecords]
      rfl
  rw [if_neg hk]
  have hentry := x.entryAfter_eq hk
  have hrecords (l : List EventRecord) : x.peerRecords k l = _ := if_neg hk
  cases hf : x.admitted k with
  | some f =>
    have hleaves := State.leavesRow_of_heard h hk hf
    simp only [hf] at hentry hrecords
    obtain ⟨hm, he⟩ := x.hearPeer_kept k f
    obtain ⟨ht, hl, hp⟩ := x.hearPeer_blocks k f
    obtain ⟨hmember, hpeer⟩ := PeerStepped.of_setPeer h hentry.symm hm
    refine ⟨ht, hl, hmember, hpeer, ?_, ?_⟩
    · rw [he]
      simp only [hleaves]
    · rw [hp, hrecords]
      simp only [hleaves]
  | none =>
    have hleaves := State.leavesRow_of_missed hk hf
    simp only [hf] at hentry hrecords
    obtain ⟨ht, hl, hm, he, hp⟩ := x.missPeer_blocks h.peers_length k
    obtain ⟨hmember, hpeer⟩ := PeerStepped.of_setPeer h hentry.symm hm
    have hcomm : ((x.member.peer k).state = .silent ∧ 3 ≤ (x.member.peer k).missRun) ∧ (x.member.peer k).bound = true ↔
        x.leavesRow k = true := by rw [hleaves]; tauto
    refine ⟨ht, hl, hmember, hpeer, ?_, ?_⟩
    · rw [he]
      simp only [hcomm]
    · rw [hp, hrecords]
      simp only [hcomm]

end Sys2Proof.Machine
end

section
/-! SUPPORT. Step 2 of admission as a whole: all entries, all rows and the records in station order (R81, R84 to R87). -/

namespace Sys2Proof.Machine

/-- The records of step 2 at a station: ROW_STATE where all sources of its row have left by then, itself among them. -/
def State.peerEvents (s : State) (k : Station) : List EventRecord :=
  s.peerRecords k (if s.leavesRow k && (rowOf s.engine.rows (s.member.peer k).axis).sources.all
      fun x => s.leavesRow x.station && decide (x.station.toNat ≤ k.toNat)
    then [evRowState s.timer.epoch (s.member.peer k).axis.toNat .unbound
      (rowOf s.engine.rows (s.member.peer k).axis).stale] else [])

/-- The state after step 2 has been taken at the stations below a number. -/
structure PeersPassed (s x : State) (n : Nat) : Prop where
  listing : x.Listing
  timer : x.timer = s.timer
  line : x.line = s.line
  member : x.member = { s.member with peers := x.member.peers }
  peer : ∀ j, x.member.peer j = if j.toNat < n then s.entryAfter j else s.member.peer j
  rows : ∀ a, rowOf x.engine.rows a =
    (rowOf s.engine.rows a).without fun j => decide (j.toNat < n) && s.leavesRow j
  vote : x.engine.vote = s.engine.vote
  port : x.port = s.port.appendAll ((allStations.take n).flatMap s.peerEvents)

theorem State.admitted_congr {s x : State} (ht : x.timer = s.timer) (hl : x.line = s.line) (k : Station) :
    x.admitted k = s.admitted k := by
  rw [State.admitted, State.admitted, ht, hl]

/-- At a station that step 2 has not reached, the state so far tells what the first state tells. -/
theorem PeersPassed.station {s x : State} {k : Station} (h : PeersPassed s x k.toNat) :
    x.entryAfter k = s.entryAfter k ∧ x.leavesRow k = s.leavesRow k ∧
      ∀ l, x.peerRecords k l = s.peerRecords k l := by
  have hown : x.member.ownStation = s.member.ownStation := by rw [h.member]
  have hplan : x.plan = s.plan := by rw [State.plan, State.plan, h.timer]
  have hpeer : x.member.peer k = s.member.peer k := by rw [h.peer, if_neg (Nat.lt_irrefl _)]
  have hadmitted := State.admitted_congr h.timer h.line k
  refine ⟨?_, ?_, fun l => ?_⟩
  · rw [State.entryAfter, State.entryAfter, hown, hplan, hpeer, hadmitted]
  · rw [State.leavesRow, State.leavesRow, hown, hplan, hpeer, hadmitted]
  · rw [State.peerRecords, State.peerRecords, hown, hplan, hpeer, hadmitted, h.timer]

theorem State.Listing.boundOnce {s : State} (h : s.Listing) : boundOnce s.engine.rows := by
  rw [boundOnce_iff_rowOf h.rows_length]
  intro a b k ha hb
  exact Option.some.inj (((h.rows k a).1 ha).symm.trans ((h.rows k b).1 hb))

/-- A station that step 2 unbinds stands in the row of its entry. -/
theorem State.has_of_leavesRow {s : State} (h : s.Listing) {k : Station} (hk : s.leavesRow k = true) :
    (rowOf s.engine.rows (s.member.peer k).axis).has k = true := by
  simp only [State.leavesRow, Bool.and_eq_true, bne_iff_ne] at hk
  obtain ⟨⟨⟨hown, -⟩, hb⟩, -⟩ := hk
  rw [h.rows, MembershipUnit.listed, if_neg hown, if_pos hb]

/-- The ROW_STATE of an unbind in step 2, told from the rows before the step. -/
theorem PeersPassed.unbound {s x : State} {k : Station} (hs : s.Listing) (h : PeersPassed s x k.toNat) :
    (if s.leavesRow k then (unbindRows s.timer.epoch x.engine.rows k).2 else []) =
      if s.leavesRow k && (rowOf s.engine.rows (s.member.peer k).axis).sources.all
          fun x => s.leavesRow x.station && decide (x.station.toNat ≤ k.toNat)
        then [evRowState s.timer.epoch (s.member.peer k).axis.toNat .unbound
          (rowOf s.engine.rows (s.member.peer k).axis).stale] else [] := by
  by_cases hk : s.leavesRow k = true
  · have hrow := h.rows (s.member.peer k).axis
    have hhas : (rowOf x.engine.rows (s.member.peer k).axis).has k = true := by
      rw [hrow, Row.without_has, State.has_of_leavesRow hs hk]
      simp
    rw [if_pos hk, hk, Bool.true_and, unbindRows_snd_of_has _ h.listing.boundOnce hhas, Row.releaseEvents, hrow,
      Row.without_released]
    refine if_congr ?_ rfl rfl
    rw [← hrow, and_iff_right hhas]
    simp only [Row.without, List.filter_eq_nil_iff, List.all_eq_true, Bool.not_eq_true', Bool.not_eq_false,
      Bool.or_eq_true, Bool.and_eq_true, decide_eq_true_eq, beq_iff_eq]
    refine forall₂_congr fun src _ => ?_
    constructor
    · rintro (⟨hlt, hl⟩ | rfl)
      · exact ⟨hl, hlt.le⟩
      · exact ⟨hk, le_rfl⟩
    · rintro ⟨hl, hle⟩
      rcases Nat.lt_or_eq_of_le hle with hlt | heq
      · exact .inl ⟨hlt, hl⟩
      · exact .inr (BitVec.eq_of_toNat_eq heq)
  · simp [hk]

theorem PeersPassed.step {s x : State} {k : Station} (hs : s.Listing) (h : PeersPassed s x k.toNat) :
    PeersPassed s (x.updatePeer k) (k.toNat + 1) := by
  obtain ⟨ht, hl, hm, hp, he, hport⟩ := State.updatePeer_stepped h.listing k
  obtain ⟨hentry, hleaves, hrecords⟩ := h.station
  have hbelow (j : Station) : j.toNat < k.toNat + 1 ↔ j.toNat < k.toNat ∨ j = k := by
    rw [Nat.lt_succ_iff_lt_or_eq]
    exact or_congr Iff.rfl ⟨fun heq => BitVec.eq_of_toNat_eq heq, fun heq => by rw [heq]⟩
  have hrowsEq : (x.updatePeer k).engine.rows =
      if s.leavesRow k then (unbindRows s.timer.epoch x.engine.rows k).1 else x.engine.rows := by
    rw [he, hleaves, h.timer]
  refine ⟨h.listing.updatePeer k, ht.trans h.timer, hl.trans h.line, ?_, fun j => ?_, fun a => ?_, ?_, ?_⟩
  · rw [hm, h.member]
  · rw [hp, hentry, h.peer]
    by_cases hj : j = k
    · rw [if_pos hj, if_pos ((hbelow j).2 (.inr hj)), hj]
    · rw [if_neg hj]
      exact if_congr (by rw [hbelow]; simp [hj]) rfl rfl
  · rw [hrowsEq]
    by_cases hk : s.leavesRow k = true
    · rw [if_pos hk, rowOf_unbindRows, h.rows, Row.without_released]
      refine Row.without_congr _ fun j => ?_
      rw [Bool.eq_iff_iff]
      simp only [Bool.or_eq_true, Bool.and_eq_true, decide_eq_true_eq, beq_iff_eq, hbelow]
      constructor
      · rintro (⟨hlt, hleave⟩ | rfl)
        · exact ⟨.inl hlt, hleave⟩
        · exact ⟨.inr rfl, hk⟩
      · rintro ⟨hlt | rfl, hleave⟩
        · exact .inl ⟨hlt, hleave⟩
        · exact .inr rfl
    · rw [if_neg hk, h.rows]
      refine Row.without_congr _ fun j => ?_
      rw [Bool.eq_iff_iff]
      simp only [Bool.and_eq_true, decide_eq_true_eq, hbelow]
      constructor
      · rintro ⟨hlt, hleave⟩
        exact ⟨.inl hlt, hleave⟩
      · rintro ⟨hlt | rfl, hleave⟩
        · exact ⟨hlt, hleave⟩
        · exact absurd hleave hk
  · rw [he]
    exact h.vote
  · rw [hport, h.port, hleaves, h.timer, h.unbound hs, hrecords, ← LocalPort.appendAll_append, allStations_take_succ,
      List.flatMap_append, List.flatMap_singleton]
    rfl

/-- Step 2 as a whole. -/
theorem State.updatePeers_passed {s : State} (hs : s.Listing) (hcons : ∀ a, (rowOf s.engine.rows a).consistent) :
    PeersPassed s s.updatePeers 16 := by
  refine foldl_allStations ?_ fun _ _ h => h.step hs
  refine ⟨hs, rfl, rfl, rfl, fun j => rfl, fun a => ?_, rfl, rfl⟩
  exact (Row.without_none (hcons a) fun j => by simp).symm

theorem allStations_take_all : allStations.take 16 = allStations := rfl

end Sys2Proof.Machine
end

section
/-! SUPPORT. Step 4 of admission: the bind claims in station order, their answers, the rows and the records (R9 to R11, R101). -/

namespace Sys2Proof.Machine

/-! ### Who claims, and what -/

/-- The bound flag and the refused flag of a station, the own ones in the own place (R101). -/
def State.flags (s : State) (k : Station) : Bool × Bool :=
  if k = s.member.ownStation then (s.member.ownBound, s.member.ownRefused)
  else ((s.member.peer k).bound, (s.member.peer k).refused)

/-- The axis a station claims at step 4, if it claims one (R101). -/
def State.claimAxis (s : State) (k : Station) : Option Axis :=
  if k = s.member.ownStation then
    (if s.member.selfState.member = true ∧ s.member.ownBound = false then some s.member.ownAxis else none)
  else if (s.member.peer k).state.counted = true ∧ (s.member.peer k).bound = false then some (s.member.peer k).axis
  else none

/-- How many stations below a number claim a row. -/
def State.claimCount (s : State) (a : Axis) (n : Nat) : Nat := (allStations.take n).countP fun j => s.claimAxis j == some a

/-- Whether the row of an axis has room for a claimant behind those of lower number. -/
def State.takesClaim (s : State) (a : Axis) (k : Station) : Bool :=
  decide ((rowOf s.engine.rows a).sources.length + s.claimCount a k.toNat < 3)

theorem State.claimCount_succ (s : State) (a : Axis) (k : Station) : s.claimCount a (k.toNat + 1) =
    s.claimCount a k.toNat + if s.claimAxis k = some a then 1 else 0 := by
  rw [State.claimCount, allStations_take_succ, List.countP_append, List.countP_singleton]
  simp only [beq_iff_eq]
  rfl

theorem State.flags_of_claim {s : State} {k : Station} {a : Axis} (h : s.claimAxis k = some a) :
    (s.flags k).1 = false := by
  unfold State.claimAxis at h
  unfold State.flags
  split at h
  · next hk =>
    split at h
    · next hc => rw [if_pos hk]; exact hc.2
    · cases h
  · next hk =>
    split at h
    · next hc => rw [if_neg hk]; exact hc.2
    · cases h

/-- A claimant is listed in no row. -/
theorem State.listed_of_claim {s : State} {k : Station} {a : Axis} (h : s.claimAxis k = some a) :
    s.member.listed k = none := by
  have hflag := State.flags_of_claim h
  unfold State.flags at hflag
  unfold MembershipUnit.listed
  by_cases hk : k = s.member.ownStation
  · rw [if_pos hk] at hflag ⊢
    exact if_neg (Bool.eq_false_iff.1 hflag)
  · rw [if_neg hk] at hflag ⊢
    exact if_neg (Bool.eq_false_iff.1 hflag)

/-! ### One claim -/

/-- A claim of a station that is listed nowhere, block by block (R10, R101). -/
structure ClaimStepped (x y : State) (k : Station) (a : Axis) : Prop where
  timer : y.timer = x.timer
  line : y.line = x.line
  member : y.member = { x.member with
    peers := y.member.peers, ownBound := y.member.ownBound, ownRefused := y.member.ownRefused }
  peer : ∀ j, y.member.peer j =
    { x.member.peer j with bound := (y.member.peer j).bound, refused := (y.member.peer j).refused }
  own : y.member.peer y.member.ownStation = x.member.peer x.member.ownStation
  flags : ∀ j, y.flags j = if j = k
    then (decide ((rowOf x.engine.rows a).sources.length < 3), !decide ((rowOf x.engine.rows a).sources.length < 3))
    else x.flags j
  engine : y.engine = { x.engine with rows := (bindRows x.timer.epoch x.engine.rows k a (x.flags k).2).1 }
  port : y.port = x.port.appendAll (bindRows x.timer.epoch x.engine.rows k a (x.flags k).2).2.2

theorem PeerEntry.answered_eq (p : PeerEntry) (r : Bool) :
    p.answered (if r = true then .bound else .refused) = { p with bound := r, refused := !r } := by
  cases r <;> rfl

theorem MembershipUnit.answered_eq (m : MembershipUnit) (r : Bool) :
    m.answered (if r = true then .bound else .refused) = { m with ownBound := r, ownRefused := !r } := by
  cases r <;> rfl

theorem State.claim_of_none {s : State} {k : Station} (h : s.claimAxis k = none) : s.claim k = s := by
  unfold State.claimAxis at h
  unfold State.claim
  split at h
  · next hk =>
    rw [if_pos hk]
    exact if_neg fun hc => by rw [if_pos hc] at h; cases h
  · next hk =>
    rw [if_neg hk]
    exact if_neg fun hc => by rw [if_pos hc] at h; cases h

theorem State.claim_stepped {x : State} (hx : x.Listing) {k : Station} {a : Axis} (h : x.claimAxis k = some a) :
    ClaimStepped x (x.claim k) k a := by
  have hnot := hx.not_has (State.listed_of_claim h) a
  have hanswer (refused : Bool) : (bindRows x.timer.epoch x.engine.rows k a refused).2.1 =
      if decide ((rowOf x.engine.rows a).sources.length < 3) = true then .bound else .refused := by
    rw [bindRows_answer hnot]
    exact if_congr decide_eq_true_iff.symm rfl rfl
  unfold State.claimAxis at h
  by_cases hk : k = x.member.ownStation
  · rw [if_pos hk] at h
    split at h
    · next hc =>
      obtain rfl := Option.some.inj h
      have hclaim : x.claim k = x.claimOwn := by rw [State.claim, if_pos hk]; exact if_pos hc
      have hmember := hanswer x.member.ownRefused
      have hflag : (x.flags k).2 = x.member.ownRefused := by rw [State.flags, if_pos hk]
      rw [hclaim, State.claimOwn_eq, State.ownClaim, ← hk, hmember, MembershipUnit.answered_eq]
      refine ⟨rfl, rfl, rfl, fun j => rfl, rfl, fun j => ?_, ?_, ?_⟩
      · simp only [State.flags, State.emit_member, ← hk]
        by_cases hj : j = k
        · rw [if_pos hj, if_pos hj]
        · rw [if_neg hj, if_neg hj, if_neg hj]
          rfl
      · rw [hflag]; rfl
      · rw [hflag]; rfl
    · cases h
  · rw [if_neg hk] at h
    split at h
    · next hc =>
      obtain rfl := Option.some.inj h
      have hclaim : x.claim k = x.claimPeer k := by rw [State.claim, if_neg hk]; exact if_pos hc
      have hmember := hanswer (x.member.peer k).refused
      have hflag : (x.flags k).2 = (x.member.peer k).refused := by rw [State.flags, if_neg hk]
      have hpeer (p : PeerEntry) := MembershipUnit.peer_setPeer hx.peers_length k (p := p)
      rw [hclaim, State.claimPeer_eq, State.peerClaim, hmember, PeerEntry.answered_eq]
      refine ⟨rfl, rfl, rfl, fun j => ?_, ?_, fun j => ?_, ?_, ?_⟩
      · rw [State.emit_member, hpeer]
        split
        · next hj => rw [hj]
        · rfl
      · exact (hpeer _ x.member.ownStation).trans (if_neg (Ne.symm hk))
      · simp only [State.flags, State.emit_member]
        rw [hpeer]
        by_cases hj : j = k
        · rw [if_pos hj, if_pos hj, hj]
          exact if_neg hk
        · rw [if_neg hj, if_neg hj]
          rfl
      · rw [hflag]; rfl
      · rw [hflag]; rfl
    · cases h

end Sys2Proof.Machine
end

section
/-! SUPPORT. Step 4 of admission as a whole: every row, every flag and the records in station order (R9 to R11, R81, R101). -/

namespace Sys2Proof.Machine

/-! ### One row under the claims -/

/-- Whether a station of lower number claims the row too. -/
def State.claimedBefore (s : State) (a : Axis) (k : Station) : Bool := decide (0 < s.claimCount a k.toNat)

/-- The record of a station that the row takes (R10, case 3). -/
def State.newSource (s : State) (a : Axis) (k : Station) : Source :=
  ⟨k, if (rowOf s.engine.rows a).hasVoting || s.claimedBefore a k then .candidate else .voting, 0, 0, none⟩

/-- A row after the claims of the stations below a number. -/
structure RowPassed (s : State) (a : Axis) (q : Row) (n : Nat) : Prop where
  length : q.sources.length = min 3 ((rowOf s.engine.rows a).sources.length + s.claimCount a n)
  mem : ∀ src, src ∈ q.sources ↔ src ∈ (rowOf s.engine.rows a).sources ∨
    ∃ k : Station, k.toNat < n ∧ s.claimAxis k = some a ∧ s.takesClaim a k = true ∧ src = s.newSource a k
  voting : (rowOf s.engine.rows a).sources.length + s.claimCount a n ≤ 3 →
    q.hasVoting = ((rowOf s.engine.rows a).hasVoting || decide (0 < s.claimCount a n))
  value : q.value = (rowOf s.engine.rows a).value
  holdAge : q.holdAge = (rowOf s.engine.rows a).holdAge
  stale : q.stale = (rowOf s.engine.rows a).stale
  state : q.state = if (rowOf s.engine.rows a).sources = [] ∧ q.sources ≠ [] then .lost else (rowOf s.engine.rows a).state

theorem RowPassed.start {s : State} {a : Axis} (h : (rowOf s.engine.rows a).sources.length ≤ 3) :
    RowPassed s a (rowOf s.engine.rows a) 0 := by
  have hcount : s.claimCount a 0 = 0 := rfl
  refine ⟨?_, fun src => ?_, fun _ => ?_, rfl, rfl, rfl, ?_⟩
  · rw [hcount]; omega
  · simp
  · simp [hcount]
  · exact (if_neg fun hc => hc.2 hc.1).symm

theorem below_succ (j k : Station) : j.toNat < k.toNat + 1 ↔ j.toNat < k.toNat ∨ j = k := by
  rw [Nat.lt_succ_iff_lt_or_eq]
  exact or_congr Iff.rfl ⟨fun heq => BitVec.eq_of_toNat_eq heq, fun heq => by rw [heq]⟩

/-- A station that claims another row, or none, leaves the row as it was. -/
theorem RowPassed.skip {s : State} {a : Axis} {q : Row} {k : Station} (h : RowPassed s a q k.toNat)
    (hk : s.claimAxis k ≠ some a) : RowPassed s a q (k.toNat + 1) := by
  have hcount : s.claimCount a (k.toNat + 1) = s.claimCount a k.toNat := by
    rw [s.claimCount_succ, if_neg hk, Nat.add_zero]
  refine ⟨by rw [hcount]; exact h.length, fun src => ?_, by rw [hcount]; exact h.voting, h.value, h.holdAge, h.stale, h.state⟩
  rw [h.mem]
  refine or_congr Iff.rfl (exists_congr fun j => and_congr_left fun hj => ?_)
  rw [below_succ]
  exact ⟨.inl, fun hlt => hlt.resolve_right fun heq => hk (heq ▸ hj.1)⟩

theorem RowPassed.room_iff {s : State} {a : Axis} {q : Row} {k : Station} (h : RowPassed s a q k.toNat) :
    q.sources.length < 3 ↔ s.takesClaim a k = true := by
  rw [State.takesClaim, decide_eq_true_iff, h.length]
  omega

theorem Row.bind_hasVoting (r : Row) (k : Station) : (r.bind k).hasVoting = true := by
  rw [Row.hasVoting, List.any_eq_true]
  by_cases hv : r.hasVoting = true
  · obtain ⟨src, hsrc, hst⟩ := List.any_eq_true.1 hv
    exact ⟨src, mem_insertSource.2 (.inr hsrc), hst⟩
  · exact ⟨_, mem_insertSource.2 (.inl rfl), by simp [hv]⟩

/-- A claimant for which there is room is bound. -/
theorem RowPassed.bind {s : State} {a : Axis} {q : Row} {k : Station} (h : RowPassed s a q k.toNat)
    (hcons : (rowOf s.engine.rows a).consistent) (hk : s.claimAxis k = some a) (hroom : s.takesClaim a k = true) :
    RowPassed s a (q.bind k) (k.toNat + 1) := by
  have hcount : s.claimCount a (k.toNat + 1) = s.claimCount a k.toNat + 1 := by
    rw [s.claimCount_succ, if_pos hk]
  have hlt : (rowOf s.engine.rows a).sources.length + s.claimCount a k.toNat < 3 := of_decide_eq_true hroom
  have hvoting := h.voting (by omega)
  have hnew : (⟨k, if q.hasVoting then .candidate else .voting, 0, 0, none⟩ : Source) = s.newSource a k := by
    rw [State.newSource, State.claimedBefore, hvoting]
  refine ⟨?_, fun src => ?_, fun _ => ?_, h.value, h.holdAge, h.stale, ?_⟩
  · rw [Row.bind, insertSource_length, h.length, hcount]
    omega
  · rw [Row.bind, mem_insertSource, h.mem, hnew]
    simp only [below_succ]
    constructor
    · rintro (rfl | hold | ⟨j, hj, hrest⟩)
      · exact .inr ⟨k, .inr rfl, hk, hroom, rfl⟩
      · exact .inl hold
      · exact .inr ⟨j, .inl hj, hrest⟩
    · rintro (hold | ⟨j, hj | rfl, hclaim, htakes, hsrc⟩)
      · exact .inr (.inl hold)
      · exact .inr (.inr ⟨j, hj, hclaim, htakes, hsrc⟩)
      · exact .inl hsrc
  · rw [Row.bind_hasVoting, hcount]
    simp
  · have hbind : (q.bind k).state = if q.state = .unbound then .lost else q.state := rfl
    have hsome : (q.bind k).sources ≠ [] := insertSource_ne_nil _ _
    rw [hbind, h.state]
    by_cases hnil : (rowOf s.engine.rows a).sources = []
    · by_cases hq : q.sources = []
      · simp [hnil, hq, hsome, hcons.2 hnil]
      · simp [hnil, hq, hsome]
    · have hstate : (rowOf s.engine.rows a).state ≠ .unbound := fun hu => hnil (hcons.1 hu)
      simp [hnil, hstate]

/-- A claimant for which there is none leaves the row as it was. -/
theorem RowPassed.full {s : State} {a : Axis} {q : Row} {k : Station} (h : RowPassed s a q k.toNat)
    (hk : s.claimAxis k = some a) (hroom : s.takesClaim a k = false) : RowPassed s a q (k.toNat + 1) := by
  have hcount : s.claimCount a (k.toNat + 1) = s.claimCount a k.toNat + 1 := by
    rw [s.claimCount_succ, if_pos hk]
  have hge : ¬(rowOf s.engine.rows a).sources.length + s.claimCount a k.toNat < 3 := of_decide_eq_false hroom
  refine ⟨?_, fun src => ?_, fun hle => ?_, h.value, h.holdAge, h.stale, h.state⟩
  · rw [h.length, hcount]
    omega
  · rw [h.mem]
    refine or_congr Iff.rfl (exists_congr fun j => and_congr_left fun hj => ?_)
    rw [below_succ]
    refine ⟨.inl, fun hlt => hlt.resolve_right ?_⟩
    rintro rfl
    rw [hroom] at hj
    cases hj.2.1
  · rw [hcount] at hle
    exact absurd hle (by omega)

/-! ### The whole step -/

/-- The flags of a station after its claim (R101). -/
def State.flagsAfter (s : State) (k : Station) : Bool × Bool :=
  match s.claimAxis k with
  | some a => (s.takesClaim a k, !s.takesClaim a k)
  | none => s.flags k

/-- The records of step 4 at a station. -/
def State.claimEvents (s : State) (k : Station) : List EventRecord :=
  match s.claimAxis k with
  | some a =>
    if s.takesClaim a k then
      (if (rowOf s.engine.rows a).sources = [] ∧ s.claimedBefore a k = false
        then [evRowState s.timer.epoch a.toNat .lost (rowOf s.engine.rows a).stale] else [])
    else if (s.flags k).2 then [] else [evStationAxis .sourceRefused s.timer.epoch k a]
  | none => []

/-- The state after step 4 has been taken at the stations below a number. -/
structure ClaimsPassed (s x : State) (n : Nat) : Prop where
  listing : x.Listing
  timer : x.timer = s.timer
  line : x.line = s.line
  member : x.member = { s.member with
    peers := x.member.peers, ownBound := x.member.ownBound, ownRefused := x.member.ownRefused }
  peer : ∀ j, x.member.peer j =
    { s.member.peer j with bound := (x.member.peer j).bound, refused := (x.member.peer j).refused }
  own : x.member.peer s.member.ownStation = s.member.peer s.member.ownStation
  flags : ∀ j, x.flags j = if j.toNat < n then s.flagsAfter j else s.flags j
  rows : ∀ a, RowPassed s a (rowOf x.engine.rows a) n
  vote : x.engine.vote = s.engine.vote
  port : x.port = s.port.appendAll ((allStations.take n).flatMap s.claimEvents)

/-- At a station that step 4 has not reached, the state so far claims what the first state claims. -/
theorem ClaimsPassed.claimAxis {s x : State} {k : Station} (h : ClaimsPassed s x k.toNat) :
    x.claimAxis k = s.claimAxis k := by
  have hown : x.member.ownStation = s.member.ownStation := by rw [h.member]
  have hself : x.member.selfState = s.member.selfState := by rw [h.member]
  have haxis : x.member.ownAxis = s.member.ownAxis := by rw [h.member]
  have hflags := h.flags k
  rw [if_neg (Nat.lt_irrefl _)] at hflags
  have hpeer := h.peer k
  unfold State.flags at hflags
  rw [State.claimAxis, State.claimAxis, hown, hself, haxis]
  rw [hown] at hflags
  by_cases hk : k = s.member.ownStation
  · rw [if_pos hk, if_pos hk] at hflags
    rw [if_pos hk, if_pos hk, (Prod.mk.inj hflags).1]
  · rw [if_neg hk, if_neg hk] at hflags
    rw [if_neg hk, if_neg hk, (Prod.mk.inj hflags).1, hpeer]

end Sys2Proof.Machine
end

section
/-! SUPPORT. The claims of step 4 taken one after the other (R81, R101). -/

namespace Sys2Proof.Machine

theorem State.claimEvents_none {s : State} {k : Station} (h : s.claimAxis k = none) : s.claimEvents k = [] := by
  rw [State.claimEvents, h]

theorem State.flagsAfter_none {s : State} {k : Station} (h : s.claimAxis k = none) : s.flagsAfter k = s.flags k := by
  rw [State.flagsAfter, h]

theorem ClaimsPassed.step_none {s x : State} {k : Station} (h : ClaimsPassed s x k.toNat) (hk : s.claimAxis k = none) :
    ClaimsPassed s x (k.toNat + 1) := by
  refine ⟨h.listing, h.timer, h.line, h.member, h.peer, h.own, fun j => ?_, fun a => (h.rows a).skip (by rw [hk]; nofun),
    h.vote, ?_⟩
  · rw [h.flags]
    by_cases hj : j = k
    · subst hj
      rw [if_neg (Nat.lt_irrefl _), if_pos (Nat.lt_succ_self _), State.flagsAfter_none hk]
    · exact if_congr (by rw [below_succ]; simp [hj]) rfl rfl
  · rw [h.port, allStations_take_succ, List.flatMap_append, List.flatMap_singleton, State.claimEvents_none hk,
      List.append_nil]

/-- The records of a claim, told from the rows before step 4. -/
theorem ClaimsPassed.events {s x : State} {k : Station} {a : Axis} (h : ClaimsPassed s x k.toNat)
    (hcons : (rowOf s.engine.rows a).consistent) (hk : s.claimAxis k = some a) :
    (bindRows x.timer.epoch x.engine.rows k a (x.flags k).2).2.2 = s.claimEvents k := by
  have hxk : x.claimAxis k = some a := h.claimAxis.trans hk
  have hnot := h.listing.not_has (State.listed_of_claim hxk)
  have hrow := h.rows a
  have hunbound : (rowOf x.engine.rows a).state = .unbound ↔
      (rowOf s.engine.rows a).sources = [] ∧ s.claimedBefore a k = false := by
    have hnil : (rowOf x.engine.rows a).sources = [] ↔
        (rowOf s.engine.rows a).sources = [] ∧ s.claimedBefore a k = false := by
      rw [← List.length_eq_zero_iff, hrow.length, State.claimedBefore, decide_eq_false_iff_not, ← List.length_eq_zero_iff]
      omega
    rw [← hnil, hrow.state]
    by_cases hs : (rowOf s.engine.rows a).sources = []
    · by_cases hx : (rowOf x.engine.rows a).sources = []
      · simp [hs, hx, hcons.2 hs]
      · simp [hs, hx]
    · have hstate : (rowOf s.engine.rows a).state ≠ .unbound := fun hu => hs (hcons.1 hu)
      have hx : (rowOf x.engine.rows a).sources ≠ [] := fun hx => hs (hnil.1 hx).1
      simp [hs, hx, hstate]
  have hflag : (x.flags k).2 = (s.flags k).2 := by rw [h.flags, if_neg (Nat.lt_irrefl _)]
  rw [bindRows_events (hnot a), unbindRows_of_not_has _ h.listing.rows_length hnot, List.nil_append, State.claimEvents, hk,
    hflag, h.timer, hrow.stale]
  exact if_congr hrow.room_iff (if_congr hunbound rfl rfl) rfl

theorem ClaimsPassed.step_some {s x : State} {k : Station} {a : Axis} (h : ClaimsPassed s x k.toNat)
    (hcons : (rowOf s.engine.rows a).consistent) (hk : s.claimAxis k = some a) :
    ClaimsPassed s (x.claim k) (k.toNat + 1) := by
  have hxk : x.claimAxis k = some a := h.claimAxis.trans hk
  have hnot := h.listing.not_has (State.listed_of_claim hxk)
  have hroom := (h.rows a).room_iff
  obtain ⟨ht, hl, hm, hp, hown, hflags, he, hport⟩ := State.claim_stepped h.listing hxk
  have hrows : (x.claim k).engine.rows = (bindRows x.timer.epoch x.engine.rows k a (x.flags k).2).1 := by rw [he]
  have hownStation : x.member.ownStation = s.member.ownStation := by rw [h.member]
  have hownAfter : (x.claim k).member.ownStation = s.member.ownStation := by rw [hm]; exact hownStation
  refine ⟨h.listing.claim k, ht.trans h.timer, hl.trans h.line, ?_, fun j => ?_, ?_, fun j => ?_, fun b => ?_, ?_, ?_⟩
  · rw [hm, h.member]
  · rw [hp, h.peer]
  · rw [← hownAfter, hown, hownStation, h.own, hownAfter]
  · rw [hflags, h.flags]
    by_cases hj : j = k
    · subst hj
      rw [if_pos rfl, if_pos (Nat.lt_succ_self _), State.flagsAfter, hk]
      simp only [hroom, Bool.decide_eq_true]
    · rw [if_neg hj]
      exact if_congr (by rw [below_succ]; simp [hj]) rfl rfl
  · rw [hrows, rowOf_bindRows h.listing.rows_length (hnot a)]
    by_cases hb : b = a
    · subst hb
      by_cases hr : (rowOf x.engine.rows b).sources.length < 3
      · rw [if_pos ⟨rfl, hr⟩]
        exact (h.rows b).bind hcons hk (hroom.1 hr)
      · rw [if_neg fun hc => hr hc.2, Row.released_of_not_has (hnot b)]
        exact (h.rows b).full hk (by simpa using mt hroom.2 hr)
    · rw [if_neg fun hc => hb hc.1, Row.released_of_not_has (hnot b)]
      exact (h.rows b).skip (by rw [hk]; exact fun heq => hb (Option.some.inj heq).symm)
  · rw [he]
    exact h.vote
  · rw [hport, h.events hcons hk, h.port, ← LocalPort.appendAll_append, allStations_take_succ, List.flatMap_append,
      List.flatMap_singleton]

/-- Step 4 as a whole. -/
theorem State.claims_passed {s : State} (hs : s.Listing) (htable : tableOk s.plan s.engine.rows) :
    ClaimsPassed s s.claims 16 := by
  obtain ⟨-, hrows, -⟩ := tableOk_iff_rowOf.1 htable
  refine foldl_allStations ?_ fun x k h => ?_
  · exact ⟨hs, rfl, rfl, rfl, fun _ => rfl, rfl, fun j => rfl, fun a => .start (hrows a).1.1, rfl, rfl⟩
  · cases hk : s.claimAxis k with
    | none => rw [State.claim_of_none (h.claimAxis.trans hk)]; exact h.step_none hk
    | some a => exact h.step_some (hrows a).2 hk

end Sys2Proof.Machine
end

section
/-! SUPPORT. Steps 1 and 3 of admission: their records, and what they leave of the peers and the table (R83, R90 to R95). -/

namespace Sys2Proof.Machine

/-! ### Step 1 -/

/-- The records of step 1 (R83, R92). -/
def State.adoptEvents (s : State) : Option Epoch → List EventRecord
  | none => []
  | some v => evPlain .resync v :: if s.member.selfState = .active then (s.resynced v).joiningEvents else []

/-- What step 1 leaves of the members but the self state and its runs, of the table and of the slots' records. -/
structure Adopted (s a : State) (e : Option Epoch) : Prop where
  engine : a.engine = s.engine
  buffer : a.line.buffer = s.line.buffer
  plan : a.plan = s.plan
  clock : a.clock = s.clock
  faults : a.faults = s.faults
  member : a.member = { s.member with
    selfState := a.member.selfState, joinRun := a.member.joinRun, joinEpochs := a.member.joinEpochs }
  kept : (s.member.selfState = .active → e = none) → a.member = s.member ∧ a.tests = s.tests
  entered : ∀ v, e = some v → s.member.selfState = .active → a = (s.resynced v).join
  origin : a.timer.origin = s.timer.origin
  entry : SameButEntry s a
  epoch : a.timer.epoch = e.getD s.timer.epoch
  port : a.port = s.port.appendAll (s.adoptEvents e)

theorem State.join_epoch (s : State) : s.join.timer.epoch = s.timer.epoch := by
  rw [State.join, State.emit_timer, State.enterJoining_timer]

theorem State.adopt_adopted (s : State) (e : Option Epoch) : Adopted s (s.adopt e) e := by
  have hengine := s.adopt_engine e
  rcases s.adopt_cases e with ⟨rfl, heq⟩ | ⟨v, rfl, hself, heq⟩ | ⟨v, rfl, hself, heq⟩
  · rw [heq]
    exact ⟨rfl, rfl, rfl, rfl, rfl, rfl, fun _ => ⟨rfl, rfl⟩, nofun, rfl, (SameButMembers.refl s).entry, rfl, rfl⟩
  · rw [heq]
    refine ⟨rfl, rfl, rfl, rfl, rfl, rfl, fun _ => ⟨rfl, rfl⟩, fun _ _ hactive => absurd hactive hself, rfl,
      (s.resynced_same v).entry, rfl, ?_⟩
    rw [State.adoptEvents, if_neg hself]
    rfl
  · obtain ⟨htimer, hline, -, -, -, hclock⟩ := (s.resynced v).join_sameButEntry
    have hmember : (s.resynced v).join.member = _ := State.enterJoining_member _
    have hfaults : (s.resynced v).join.faults = s.faults := State.enterJoining_faults _
    have hlisten : (s.resynced v).member.selfState = .active := hself
    have hnotListen : ((s.resynced v).member.selfState == .listen) = false := by rw [hlisten]; rfl
    rw [heq] at hengine ⊢
    refine ⟨hengine, ?_, ?_, hclock, hfaults, ?_, fun h => (by cases h hself), fun w hw _ => ?_, ?_,
      (s.resynced_same v).entry.trans (State.join_sameButEntry _), ?_, ?_⟩
    · rw [hline]; rfl
    · rw [State.plan, htimer]; rfl
    · rw [hmember]
      simp only [hlisten]
      rfl
    · rw [Option.some.inj hw]
    · rw [htimer]; rfl
    · exact State.join_epoch _
    · rw [State.join, State.emit_port, State.enterJoining_port, State.adoptEvents, if_pos hself]
      exact LocalPort.appendAll_append .. |>.symm

/-! ### Step 3 -/

/-- The records of step 3, told from the self states before and after it (R90 to R95). -/
def State.selfEvents (p : State) (after : SelfState) : List EventRecord :=
  if after = p.member.selfState then []
  else match after with
    | .joining => p.joiningEvents
    | .active => [evStationState p.timer.epoch .active]
    | .listen => (if p.member.selfState = .joining then [evPlain .joinFailed p.timer.epoch]
        else faultEvents p.faults p.timer.epoch .txUnheard) ++ [evStationState p.timer.epoch .listen]
    | .lockout => faultEvents p.faults p.timer.epoch .planMismatch ++ p.lockoutEvents
    | .leaving | .withdrawn => []

theorem State.selfEvents_kept {p : State} {after : SelfState} (h : after = p.member.selfState) : p.selfEvents after = [] :=
  if_pos h

theorem State.join_selfState (s : State) : s.join.member.selfState = .joining := by
  rw [State.join, State.emit_member, State.enterJoining_member]

theorem State.mismatchLockout_selfState (s : State) : s.mismatchLockout.member.selfState = .lockout := by
  rw [State.mismatchLockout, State.emit_member, State.emit_member, State.enterLockout_member]

theorem SelfTested.port {p q : State} (h : SelfTested p q) (hbound : p.member.selfState = .listen → p.member.ownBound = false) :
    q.port = p.port.appendAll (p.selfEvents q.member.selfState) := by
  cases h with
  | same | listens | counts | unheard => exact (congrArg p.port.appendAll (State.selfEvents_kept rfl)).symm
  | mismatch hst =>
    have hevents : p.selfEvents .lockout = faultEvents p.faults p.timer.epoch .planMismatch ++ p.lockoutEvents :=
      if_neg (by rw [hst]; decide)
    have hnone : p.countMismatch.lockoutUnbindEvents = [] := if_neg (by
      show ¬p.member.ownBound = true
      rw [hbound hst]; exact Bool.false_ne_true)
    rw [State.mismatchLockout_selfState, hevents]
    rw [State.mismatchLockout, State.emit_port, State.emit_port, State.enterLockout_port, hnone, List.nil_append]
    exact (LocalPort.appendAll_append ..).symm
  | joins hst =>
    have hevents : p.selfEvents .joining = p.joiningEvents := if_neg (by rw [hst]; decide)
    rw [State.join_selfState, hevents]
    rw [State.join, State.emit_port, State.enterJoining_port]
    rfl
  | activates hst =>
    have hevents : p.selfEvents .active = [evStationState p.timer.epoch .active] := if_neg (by rw [hst]; decide)
    exact (congrArg p.port.appendAll hevents).symm
  | fails hst =>
    have hevents : p.selfEvents .listen = [evPlain .joinFailed p.timer.epoch, evStationState p.timer.epoch .listen] :=
      (if_neg (by rw [hst]; decide)).trans (congrArg (· ++ _) (if_pos hst))
    exact (congrArg p.port.appendAll hevents).symm
  | falls hst =>
    have hevents : p.selfEvents .listen =
        faultEvents p.faults p.timer.epoch .txUnheard ++ [evStationState p.timer.epoch .listen] :=
      (if_neg (by rw [hst]; decide)).trans (congrArg (· ++ _) (if_neg (by rw [hst]; decide)))
    exact (congrArg p.port.appendAll hevents).symm

/-- No record of step 3 tells of a peer or of a row. -/
theorem State.selfEvents_kinds (p : State) (after : SelfState) :
    ∀ e ∈ p.selfEvents after, e.kind ∉ [EventKind.peerJoined, .peerLost, .sourceRefused] := by
  have habort (why : AbortReason) : ∀ e ∈ p.abortEvents why, e.kind = .testDone := by
    unfold State.abortEvents
    repeat' split
    all_goals simp [evTestDone]
  have hfault (k : FaultKind) : ∀ e ∈ faultEvents p.faults p.timer.epoch k, e.kind = .faultHeld := by
    unfold faultEvents
    split <;> simp [evFaultHeld]
  intro e he
  have hkind : e.kind = .testDone ∨ e.kind = .faultHeld ∨ e.kind = .stationState ∨ e.kind = .joinFailed := by
    unfold State.selfEvents State.joiningEvents State.lockoutEvents at he
    split at he
    · cases he
    split at he
    · rcases List.mem_cons.1 he with rfl | he
      · exact .inr (.inr (.inl rfl))
      · exact .inl (habort _ e he)
    · rw [List.mem_singleton.1 he]
      exact .inr (.inr (.inl rfl))
    · rcases List.mem_append.1 he with he | he
      · split at he
        · rw [List.mem_singleton.1 he]
          exact .inr (.inr (.inr rfl))
        · exact .inr (.inl (hfault _ e he))
      · rw [List.mem_singleton.1 he]
        exact .inr (.inr (.inl rfl))
    · rcases List.mem_append.1 he with he | he
      · exact .inr (.inl (hfault _ e he))
      · rcases List.mem_cons.1 he with rfl | he
        · exact .inr (.inr (.inl rfl))
        · exact .inl (habort _ e he)
    · cases he
    · cases he
  rcases hkind with h | h | h | h <;> rw [h] <;> decide

theorem State.adoptEvents_kinds (s : State) (v : Option Epoch) :
    ∀ e ∈ s.adoptEvents v, e.kind ∉ [EventKind.peerJoined, .peerLost, .sourceRefused] := by
  cases v with
  | none => nofun
  | some v =>
    intro e he
    have hkind : e.kind = .resync ∨ e.kind = .stationState ∨ e.kind = .testDone := by
      unfold State.adoptEvents at he
      rcases List.mem_cons.1 he with rfl | he
      · exact .inl rfl
      split at he
      · rcases List.mem_cons.1 he with rfl | he
        · exact .inr (.inl rfl)
        · refine .inr (.inr ?_)
          unfold State.abortEvents at he
          split at he
          · split at he
            · rw [List.mem_singleton.1 he]; rfl
            · cases he
          · cases he
      · cases he
    rcases hkind with h | h | h <;> rw [h] <;> decide

/-- Step 3 keeps the rows, the peers and the own place where it does not fall to LISTEN. -/
theorem SelfTested.table {p q : State} (h : SelfTested p q)
    (hbound : p.member.selfState = .listen → p.member.ownBound = false)
    (hfall : q.member.selfState = .listen → p.member.selfState = .listen) :
    q.engine.rows = p.engine.rows ∧ q.member.peers = p.member.peers ∧ q.member.ownStation = p.member.ownStation ∧
      q.member.ownAxis = p.member.ownAxis ∧ (q.member.selfState ≠ .lockout →
        q.member.ownBound = p.member.ownBound ∧ q.member.ownRefused = p.member.ownRefused) := by
  cases h with
  | same | listens | counts | unheard | activates => exact ⟨rfl, rfl, rfl, rfl, fun _ => ⟨rfl, rfl⟩⟩
  | fails hst | falls hst =>
    have hlisten := hfall rfl
    rw [hst] at hlisten
    cases hlisten
  | joins hst =>
    have hmember : p.countMismatch.join.member = _ := State.enterJoining_member _
    refine ⟨?_, ?_, ?_, ?_, fun _ => ⟨?_, ?_⟩⟩
    · rw [State.join, State.emit_engine, p.countMismatch.enterJoining_blocks.2.2.2.2]
      rfl
    all_goals rw [hmember]; rfl
  | mismatch hst =>
    have hmember : p.countMismatch.mismatchLockout.member = _ := State.enterLockout_member _
    have hrows : p.countMismatch.mismatchLockout.engine.rows = _ := State.enterLockout_rows _
    refine ⟨?_, ?_, ?_, ?_, fun hn => absurd (State.mismatchLockout_selfState _) hn⟩
    · rw [hrows]
      exact if_neg (by
        show ¬p.member.ownBound = true
        rw [hbound hst]; exact Bool.false_ne_true)
    all_goals rw [hmember]; rfl

/-- Step 3 keeps the plan. -/
theorem SelfTested.plan {p q : State} (h : SelfTested p q) : q.plan = p.plan := by
  cases h with
  | mismatch => rw [State.plan, p.countMismatch.mismatchLockout_blocks.2.1]; rfl
  | joins => rw [State.plan, State.join, State.emit_timer, State.enterJoining_timer]; rfl
  | same | listens | activates | fails | counts | falls | unheard => rfl

theorem SelfTested.station {p q : State} (h : SelfTested p q) : q.member.ownStation = p.member.ownStation := by
  cases h with
  | mismatch =>
    have hmember : p.countMismatch.mismatchLockout.member = _ := State.enterLockout_member _
    rw [hmember]
    rfl
  | joins =>
    have hmember : p.countMismatch.join.member = _ := State.enterJoining_member _
    rw [hmember]
    rfl
  | same | listens | activates | fails | counts | falls | unheard => rfl

end Sys2Proof.Machine
end

section
/-! SUPPORT. The state after step 4, whether or not it is taken (R81, R101), and a row's sources told station by station. -/

namespace Sys2Proof.Machine

/-! ### A source list told station by station -/

theorem stationsAscend.pairwise {l : List Source} (h : stationsAscend l) :
    l.Pairwise fun x y => x.station.toNat < y.station.toNat := by
  unfold stationsAscend at h
  rwa [List.pairwise_map] at h

theorem stationsAscend.station_inj {l : List Source} (h : stationsAscend l) {x y : Source} (hx : x ∈ l) (hy : y ∈ l)
    (hxy : x.station = y.station) : x = y := by
  have hp := h.pairwise
  refine Classical.byContradiction fun hne => ?_
  have hne' := List.Pairwise.forall_of_forall_of_flip (R := fun x y : Source => x = y ∨ x.station ≠ y.station)
    (fun x _ => .inl rfl) (hp.imp fun hlt => .inr fun heq => (Nat.lt_irrefl _ (heq ▸ hlt)).elim)
    (hp.imp fun hlt => .inr fun heq => (Nat.lt_irrefl _ (heq ▸ hlt)).elim) hx hy
  exact hne'.elim hne fun h => h hxy

theorem stationsAscend.find?_eq_some {l : List Source} (h : stationsAscend l) {k : Station} {x : Source} :
    (l.find? fun x => x.station == k) = some x ↔ x ∈ l ∧ x.station = k := by
  constructor
  · exact fun hf => ⟨List.mem_of_find?_eq_some hf, by simpa using List.find?_some hf⟩
  · rintro ⟨hx, rfl⟩
    cases hf : l.find? fun y => y.station == x.station with
    | none => simpa using List.find?_eq_none.1 hf x hx
    | some y =>
      have hy : y.station = x.station := by simpa using List.find?_some hf
      rw [h.station_inj (List.mem_of_find?_eq_some hf) hx hy]

/-- An ascending source list is what its members give station by station. -/
theorem stationsAscend.eq_filterMap {l : List Source} (h : stationsAscend l) {g : Station → Option Source}
    (hg : ∀ k x, g k = some x → x.station = k) (hmem : ∀ x, x ∈ l ↔ g x.station = some x) :
    l = allStations.filterMap g := by
  have hl := h.pairwise
  have hr : (allStations.filterMap g).Pairwise fun x y => x.station.toNat < y.station.toNat := by
    refine List.Pairwise.filterMap _ (fun j k hjk x hx y hy => ?_) allStations_ascend
    rw [hg j x hx, hg k y hy]
    exact hjk
  have hnodup {l : List Source} (hl : l.Pairwise fun x y => x.station.toNat < y.station.toNat) : l.Nodup := by
    refine List.Pairwise.imp ?_ hl
    rintro x _ hlt rfl
    exact Nat.lt_irrefl _ hlt
  refine List.Perm.eq_of_pairwise (fun x y _ _ hxy hyx => absurd (hxy.trans hyx) (Nat.lt_irrefl _)) hl hr ?_
  refine (List.perm_ext_iff_of_nodup (hnodup hl) (hnodup hr)).2 fun x => ?_
  rw [hmem, List.mem_filterMap]
  constructor
  · exact fun hx => ⟨x.station, mem_allStations _, hx⟩
  · rintro ⟨k, -, hx⟩
    rw [hg k x hx]
    exact hx

/-- A row that some stations have left and some have joined, station by station. -/
theorem stationsAscend.eq_left_joined {l l' : List Source} (h : stationsAscend l) (h' : stationsAscend l')
    {gone : Station → Bool} {joins : Station → Prop} [DecidablePred joins] {new : Station → Source}
    (hnew : ∀ k, (new k).station = k) (hdisjoint : ∀ k, joins k → ∀ x ∈ l, x.station ≠ k)
    (hmem : ∀ x, x ∈ l' ↔ (x ∈ l ∧ gone x.station = false) ∨ ∃ k, joins k ∧ x = new k) :
    l' = allStations.filterMap fun k => match l.find? fun x => x.station == k with
      | some x => if gone k then none else some x
      | none => if joins k then some (new k) else none := by
  refine h'.eq_filterMap (fun k x hx => ?_) fun x => ?_
  · split at hx
    · next y hy =>
      split at hx
      · cases hx
      · rw [← Option.some.inj hx]
        exact (h.find?_eq_some.1 hy).2
    · split at hx
      · rw [← Option.some.inj hx]
        exact hnew k
      · cases hx
  · rw [hmem]
    cases hf : l.find? fun y => y.station == x.station with
    | some y =>
      obtain ⟨hy, hstation⟩ := h.find?_eq_some.1 hf
      constructor
      · rintro (⟨hx, hg⟩ | ⟨k, hk, rfl⟩)
        · simp [hg, h.station_inj hy hx hstation]
        · exact absurd (hstation.trans (hnew k)) (hdisjoint k hk y hy)
      · intro hx
        simp only at hx
        split at hx
        · cases hx
        · next hg =>
          obtain rfl := Option.some.inj hx
          exact .inl ⟨hy, by simpa using hg⟩
    | none =>
      have hnot (hx : x ∈ l) : False := by
        have hsome := h.find?_eq_some.2 ⟨hx, rfl⟩
        rw [hf] at hsome
        cases hsome
      constructor
      · rintro (⟨hx, -⟩ | ⟨k, hk, rfl⟩)
        · exact (hnot hx).elim
        · rw [hnew]
          exact if_pos hk
      · intro hx
        simp only at hx
        split at hx
        · next hk => exact .inr ⟨x.station, hk, (Option.some.inj hx).symm⟩
        · cases hx

/-! ### Step 4, taken or not -/

/-- The state after step 4, which LISTEN and LOCKOUT leave out (R81). -/
def State.claimed (q : State) : State := if q.member.selfState.votes then q.claims else q

/-- The axis that a station claims at step 4 of a close. -/
def State.wantsAxis (q : State) (k : Station) : Option Axis := if q.member.selfState.votes then q.claimAxis k else none

/-- The records of step 4 of a close at a station. -/
def State.wantsEvents (q : State) (k : Station) : List EventRecord :=
  if q.member.selfState.votes then q.claimEvents k else []

/-- The state after step 4, taken or not. -/
structure Claimed (q x : State) : Prop where
  timer : x.timer = q.timer
  member : x.member = { q.member with
    peers := x.member.peers, ownBound := x.member.ownBound, ownRefused := x.member.ownRefused }
  peer : ∀ j, x.member.peer j =
    { q.member.peer j with bound := (x.member.peer j).bound, refused := (x.member.peer j).refused }
  flags : ∀ k, x.flags k = match q.wantsAxis k with
    | some a => (q.takesClaim a k, !q.takesClaim a k)
    | none => q.flags k
  ascend : ∀ a, stationsAscend (rowOf x.engine.rows a).sources
  mem : ∀ a src, src ∈ (rowOf x.engine.rows a).sources ↔ src ∈ (rowOf q.engine.rows a).sources ∨
    ∃ k, q.wantsAxis k = some a ∧ q.takesClaim a k = true ∧ src = q.newSource a k
  full : ∀ a k, q.wantsAxis k = some a → q.takesClaim a k = false → (rowOf x.engine.rows a).sources.length = 3
  value : ∀ a, (rowOf x.engine.rows a).value = (rowOf q.engine.rows a).value
  holdAge : ∀ a, (rowOf x.engine.rows a).holdAge = (rowOf q.engine.rows a).holdAge
  stale : ∀ a, (rowOf x.engine.rows a).stale = (rowOf q.engine.rows a).stale
  state : ∀ a, (rowOf x.engine.rows a).state =
    if (rowOf q.engine.rows a).sources = [] ∧ (rowOf x.engine.rows a).sources ≠ [] then .lost
    else (rowOf q.engine.rows a).state
  port : x.port = q.port.appendAll (allStations.flatMap q.wantsEvents)

theorem State.claimCount_mono (s : State) (a : Axis) {m n : Nat} (h : m ≤ n) : s.claimCount a m ≤ s.claimCount a n :=
  (List.take_sublist_take_left h).countP_le

/-- A row that has room for a claimant had it for those of lower number. -/
theorem State.takesClaim_of_lt {s : State} {a : Axis} {j k : Station} (h : s.takesClaim a k = true)
    (hjk : j.toNat < k.toNat) : s.takesClaim a j = true := by
  have hcount := s.claimCount_mono a hjk.le
  have hroom := of_decide_eq_true h
  exact decide_eq_true (by omega)

theorem AgreementEngine.ok.claims {p : Plan} {s : State} (h : s.engine.ok p) : s.claims.engine.ok p := by
  unfold State.claims
  exact foldl_keeps (P := fun x : State => x.engine.ok p) (fun _ k hx => hx.claim k) h _

theorem State.claimed_claimed {q : State} (hs : q.Listing) (hok : q.engine.ok q.plan) : Claimed q q.claimed := by
  obtain ⟨-, hrows, -⟩ := tableOk_iff_rowOf.1 hok.1
  by_cases hv : q.member.selfState.votes = true
  · have h := State.claims_passed hs hok.1
    have hclaims : tableOk q.plan q.claims.engine.rows := hok.claims.1
    have hwants (k : Station) : q.wantsAxis k = q.claimAxis k := if_pos hv
    have hevents (k : Station) : q.wantsEvents k = q.claimEvents k := if_pos hv
    rw [State.claimed, if_pos hv]
    refine ⟨h.timer, h.member, h.peer, fun k => ?_, fun a => ((tableOk_iff_rowOf.1 hclaims).2.1 a).1.2.1, fun a src => ?_,
      fun a k hk htakes => ?_, fun a => (h.rows a).value, fun a => (h.rows a).holdAge, fun a => (h.rows a).stale,
      fun a => (h.rows a).state, ?_⟩
    · rw [h.flags, if_pos k.isLt, hwants]
      rfl
    · rw [(h.rows a).mem]
      simp only [hwants]
      exact or_congr Iff.rfl (exists_congr fun k => and_iff_right k.isLt)
    · rw [(h.rows a).length]
      have hcount := q.claimCount_mono a (m := k.toNat) (n := 16) k.isLt.le
      have hroom := of_decide_eq_false htakes
      omega
    · rw [h.port, allStations_take_all, funext hevents]
  · have hwants (k : Station) : q.wantsAxis k = none := if_neg hv
    have hevents (k : Station) : q.wantsEvents k = [] := if_neg hv
    rw [State.claimed, if_neg hv]
    refine ⟨rfl, rfl, fun _ => rfl, fun k => ?_, fun a => (hrows a).1.2.1, fun a src => ?_,
      fun a k hk => ?_, fun a => rfl, fun a => rfl, fun a => rfl, fun a => ?_, ?_⟩
    · rw [hwants]
    · simp [hwants]
    · rw [hwants] at hk
      cases hk
    · exact (if_neg fun hc => hc.2 hc.1).symm
    · rw [List.flatMap_eq_nil_iff.2 fun k _ => hevents k]
      rfl

theorem State.deliver_rows (s : State) (l : List AdmittedSample) :
    (s.deliver l).engine.rows = placeFrom l 0 s.engine.rows := rfl

/-- The delivery changes samples alone (R8). -/
theorem State.admission_rows (s : State) (sent : Bool) (a : Axis) :
    rowOf (s.admission sent).engine.rows a =
      if (s.selfTested sent).member.selfState.votes
      then (rowOf (s.selfTested sent).claimed.engine.rows a).placed a.toNat
        ((s.selfTested sent).claims.admissionList s.member.selfState)
      else rowOf (s.selfTested sent).claimed.engine.rows a := by
  rw [State.admission_eq]
  generalize s.selfTested sent = q
  by_cases hv : q.member.selfState.votes = true
  · rw [State.claimed, if_pos hv, if_pos hv, if_pos hv, State.deliver_rows, rowOf_placeFrom]
  · rw [State.claimed, if_neg hv, if_neg hv, if_neg hv]

theorem State.admission_claimed (s : State) (sent : Bool) :
    (s.admission sent).member = (s.selfTested sent).claimed.member ∧
    (s.admission sent).timer = (s.selfTested sent).claimed.timer ∧
    (s.admission sent).port = (s.selfTested sent).claimed.port := by
  rw [State.admission_eq]
  generalize s.selfTested sent = q
  by_cases hv : q.member.selfState.votes = true
  · rw [State.claimed, if_pos hv, if_pos hv]
    exact ⟨State.deliver_member .., State.deliver_timer .., State.deliver_port ..⟩
  · rw [State.claimed, if_neg hv, if_neg hv]
    exact ⟨rfl, rfl, rfl⟩

end Sys2Proof.Machine
end

section
/-! SUPPORT. The states between the steps of admission, and what the peers, the claims and the rows are at its end (R81). -/

namespace Sys2Proof.Machine

/-! ### Entries (Tables 5-6 and 5-7) -/

theorem PeerEntry.heardAs_eq (p : PeerEntry) (f : FrameRecord) : p.heardAs f =
    { p with
      state := if p.state = .absent then .new else .present
      heardRun := if p.state = .absent then 1 else if p.state = .new then 0 else p.heardRun
      missRun := if p.state = .present ∨ p.state = .silent then 0 else p.missRun
      axis := f.axis, frameState := f.state, flags := f.flags, heard := f.heard, lastEpoch := f.epoch
      bound := if (p.state = .present ∨ p.state = .silent) ∧ p.axis ≠ f.axis then false else p.bound
      refused := if ((p.state = .present ∨ p.state = .silent) ∧ p.axis ≠ f.axis) ∧ p.bound = false then false
        else p.refused } := by
  have hmoves : p.changesAxis f = true ↔ (p.state = .present ∨ p.state = .silent) ∧ p.axis ≠ f.axis := by
    rw [PeerEntry.changesAxis, Bool.and_eq_true, PeerState.counted_iff, bne_iff_ne]
  simp only [← hmoves]
  by_cases hm : p.changesAxis f = true
  · rcases Bool.eq_false_or_eq_true p.bound with hb | hb <;> rcases p.state.exhausted with hs | hs | hs | hs <;>
      simp [PeerEntry.heardAs, PeerEntry.moveAxis, PeerEntry.advance, PeerEntry.hear, hm, hb, hs]
  · rcases p.state.exhausted with hs | hs | hs | hs <;>
      simp [PeerEntry.heardAs, PeerEntry.moveAxis, PeerEntry.advance, PeerEntry.hear, hm, hs]

theorem PeerEntry.missed_eq (p : PeerEntry) : p.missed = match p.state with
    | .absent => p
    | .present => { p with state := .silent, missRun := 1 }
    | .new | .silent =>
      if p.state = .silent ∧ p.missRun < 3 then { p with missRun := p.missRun + 1 }
      else { p with state := .absent, heardRun := 0, missRun := 0, bound := false, refused := false,
                    reported := 0, testReport := none } := by
  unfold PeerEntry.missed
  rcases p.state.exhausted with h | h | h | h <;> rw [h]
  · simp [PeerEntry.lose]
  · by_cases hr : 3 ≤ p.missRun
    · simp [hr, PeerEntry.lose]
    · simp [hr, Nat.lt_of_not_le hr]

/-- A peer that leaves a row in step 2 is not counted in that row's axis after it (R86, R87). -/
theorem State.entryAfter_of_leavesRow {s : State} (h : s.Listing) {k : Station} (hk : s.leavesRow k = true) {a : Axis}
    (ha : (rowOf s.engine.rows a).has k = true) (hcounted : (s.entryAfter k).state.counted = true) :
    (s.entryAfter k).axis ≠ a := by
  have hin : ¬(k = s.member.ownStation ∨ s.plan.n ≤ k.toNat) := fun hout => by
    rw [State.leavesRow_of_kept hout] at hk
    cases hk
  have haxis : (s.member.peer k).axis = a :=
    Option.some.inj (((h.rows _ _).1 (State.has_of_leavesRow h hk)).symm.trans ((h.rows k a).1 ha))
  have hentry := s.entryAfter_eq hin
  cases hf : s.admitted k with
  | some f =>
    obtain ⟨hchanges, -⟩ := (State.leavesRow_of_heard h hin hf).1 hk
    simp only [hf] at hentry
    rw [PeerEntry.changesAxis, Bool.and_eq_true, bne_iff_ne, haxis] at hchanges
    rw [hentry, PeerEntry.heardAs_axis]
    exact Ne.symm hchanges.2
  | none =>
    obtain ⟨-, hsilent, hmiss⟩ := (State.leavesRow_of_missed hin hf).1 hk
    simp only [hf] at hentry
    rw [hentry, PeerEntry.missed_eq, hsilent] at hcounted
    simp only [Nat.not_lt.2 hmiss, and_false, if_false] at hcounted
    cases hcounted

/-! ### The states between the steps -/

/-- The states after steps 1 to 4 of admission, from a sound table. -/
structure AdmissionSteps (s a p q x : State) (e : Option Epoch) : Prop where
  listing : s.Listing
  ok : s.engine.ok s.plan
  self : s.member.selfState ≠ .lockout
  adopted : Adopted s a e
  before : s.member.selfState = .active ∨ a.member.selfState = s.member.selfState
  adopting : s.member.selfState = .active → a.member.selfState = .active ∨ a.member.selfState = .joining
  left : a.Listing
  peers : PeersPassed a p 16
  updated : SameButMembers a p
  tested : SelfTested p q
  bound : q.Listing
  claimed : Claimed q x

theorem State.admission_steps {s : State} (hs : s.Listing) (hok : s.engine.ok s.plan) (hself : s.member.selfState ≠ .lockout)
    (sent : Bool) : AdmissionSteps s (s.adopt (s.adoption sent)) (s.peersUpdated sent) (s.selfTested sent)
      (s.selfTested sent).claimed (s.adoption sent) := by
  have hA := s.adopt_adopted (s.adoption sent)
  have hleft := hs.adopt (s.adoption sent)
  have hokA : (s.adopt (s.adoption sent)).engine.ok s.plan := hA.engine ▸ hok
  have hcons (a : Axis) : (rowOf (s.adopt (s.adoption sent)).engine.rows a).consistent :=
    ((tableOk_iff_rowOf.1 hokA.1).2.1 a).2
  have hP : PeersPassed _ (s.peersUpdated sent) 16 := State.updatePeers_passed hleft hcons
  have hT := s.selfTested_tested sent
  have hplan : (s.selfTested sent).plan = s.plan := by
    rw [hT.plan, State.plan, hP.timer]
    exact hA.plan
  have hstale : 1 ≤ s.plan.stale := (planTable_positive _).2.2.1
  have hokP : (s.peersUpdated sent).engine.ok s.plan := by
    rw [State.peersUpdated, State.updatePeers]
    exact foldl_keeps (P := fun x : State => x.engine.ok s.plan) (fun _ k hx => hx.updatePeer k) hokA _
  have hokQ : (s.selfTested sent).engine.ok (s.selfTested sent).plan := by
    rw [hplan, State.selfTested]
    exact hokP.testSelf hstale ..
  have hlistingQ : (s.selfTested sent).Listing := by
    rw [State.selfTested]
    exact hP.listing.testSelf ..
  refine ⟨hs, hok, hself, hA, ?_, fun hactive => ?_, hleft, hP, State.updatePeers_same _, hT, hlistingQ, State.claimed_claimed hlistingQ hokQ⟩
  · by_cases hactive : s.member.selfState = .active
    · exact .inl hactive
    · exact .inr (by rw [(hA.kept fun h => absurd h hactive).1])
  · rcases s.adopt_cases (s.adoption sent) with ⟨-, heq⟩ | ⟨v, -, -, heq⟩ | ⟨v, -, -, heq⟩ <;> rw [heq]
    · exact .inl hactive
    · exact .inl hactive
    · exact .inr (State.join_selfState _)

section
variable {s a p q x : State} {e : Option Epoch}

theorem AdmissionSteps.peer_start (h : AdmissionSteps s a p q x e) (k : Station) : a.member.peer k = s.member.peer k := by
  rw [h.adopted.member]
  rfl

theorem AdmissionSteps.own_start (h : AdmissionSteps s a p q x e) : a.member.ownStation = s.member.ownStation ∧
    a.member.ownAxis = s.member.ownAxis ∧ a.member.ownBound = s.member.ownBound ∧
    a.member.ownRefused = s.member.ownRefused := by
  rw [h.adopted.member]
  exact ⟨rfl, rfl, rfl, rfl⟩

theorem AdmissionSteps.selfState (h : AdmissionSteps s a p q x e) : p.member.selfState = a.member.selfState ∧
    x.member.selfState = q.member.selfState := by
  rw [h.peers.member, h.claimed.member]
  exact ⟨rfl, rfl⟩

theorem AdmissionSteps.listen_iff (h : AdmissionSteps s a p q x e) :
    p.member.selfState = .listen ↔ s.member.selfState = .listen := by
  rw [h.selfState.1]
  rcases h.before with hactive | heq
  · rw [hactive]
    rcases h.adopting hactive with ha | ha
    · rw [ha]
    · rw [ha]
      decide
  · rw [heq]

theorem AdmissionSteps.unbound_of_listen (h : AdmissionSteps s a p q x e) (hlisten : p.member.selfState = .listen) :
    p.member.ownBound = false := by
  have hb := h.peers.listing.states.1
  rw [hlisten] at hb
  exact Bool.eq_false_iff.2 fun hbound => Bool.false_ne_true (hb hbound)

/-- The table between steps 3 and 4, where step 3 has not fallen to LISTEN. -/
structure AdmissionSteps.Table (s a q : State) : Prop where
  row : ∀ b, rowOf q.engine.rows b = (rowOf s.engine.rows b).without a.leavesRow
  peer : ∀ k, q.member.peer k = a.entryAfter k
  station : q.member.ownStation = s.member.ownStation
  axis : q.member.ownAxis = s.member.ownAxis
  flags : q.member.selfState ≠ .lockout →
    q.member.ownBound = s.member.ownBound ∧ q.member.ownRefused = s.member.ownRefused

theorem AdmissionSteps.table (h : AdmissionSteps s a p q x e)
    (hfall : q.member.selfState = .listen → s.member.selfState = .listen) : AdmissionSteps.Table s a q := by
  obtain ⟨hrows, hpeers, hstation, haxis, hflags⟩ :=
    h.tested.table h.unbound_of_listen fun hq => h.listen_iff.2 (hfall hq)
  obtain ⟨hown, hownAxis, hbound, hrefused⟩ := h.own_start
  have hmember := h.peers.member
  refine ⟨fun b => ?_, fun k => ?_, ?_, ?_, fun hn => ?_⟩
  · rw [hrows, h.peers.rows, h.adopted.engine]
    exact Row.without_congr _ fun j => by rw [decide_eq_true j.isLt, Bool.true_and]
  · have hp := h.peers.peer k
    rw [if_pos k.isLt] at hp
    rw [← hp, MembershipUnit.peer, hpeers]
    rfl
  · rw [hstation, hmember]
    exact hown
  · rw [haxis, hmember]
    exact hownAxis
  · obtain ⟨hb, hr⟩ := hflags hn
    rw [hb, hr, hmember]
    exact ⟨hbound, hrefused⟩

theorem AdmissionSteps.fall_of_votes (hv : q.member.selfState.votes = true) :
    q.member.selfState = .listen → s.member.selfState = .listen := fun hq => by
  rw [hq] at hv
  cases hv

/-- The claims of step 4, told from the first state and from the entries after step 2 (R101). -/
theorem AdmissionSteps.wants (h : AdmissionSteps s a p q x e) (k : Station) : q.wantsAxis k =
    if q.member.selfState = .listen ∨ q.member.selfState = .lockout then none
    else if k = s.member.ownStation then
      (if (q.member.selfState = .joining ∨ q.member.selfState = .active) ∧ s.member.ownBound = false
        then some s.member.ownAxis else none)
    else if ((a.entryAfter k).state = .present ∨ (a.entryAfter k).state = .silent) ∧ (a.entryAfter k).bound = false
      then some (a.entryAfter k).axis else none := by
  rw [State.wantsAxis]
  by_cases hv : q.member.selfState.votes = true
  · obtain ⟨hlisten, hlockout⟩ := (SelfState.votes_iff _).1 hv
    have htable := h.table (AdmissionSteps.fall_of_votes hv)
    rw [if_pos hv, if_neg (not_or.2 ⟨hlisten, hlockout⟩), State.claimAxis, htable.station, htable.axis,
      (htable.flags hlockout).1, htable.peer]
    simp only [SelfState.member_iff, PeerState.counted_iff]
  · rw [if_neg hv]
    rw [SelfState.votes_iff, not_and_or, not_not, not_not] at hv
    rw [if_pos hv]

/-- A source of a row claims no place in it (R13). -/
theorem AdmissionSteps.not_wants (h : AdmissionSteps s a p q x e) {k : Station} {b : Axis}
    (hk : (rowOf s.engine.rows b).has k = true) : q.wantsAxis k ≠ some b := by
  intro hw
  have hv : q.member.selfState.votes = true := by
    rw [State.wantsAxis] at hw
    split at hw
    · assumption
    · cases hw
  have htable := h.table (AdmissionSteps.fall_of_votes hv)
  have hclaim : q.claimAxis k = some b := by
    rw [← hw]
    exact (if_pos hv).symm
  have hleaves : a.leavesRow k = true := by
    have hnot := h.bound.not_has (State.listed_of_claim hclaim) b
    rw [htable.row, Row.without_has, hk] at hnot
    simpa using hnot
  have hown : k ≠ q.member.ownStation := by
    rintro rfl
    rw [State.leavesRow_of_kept (.inl (htable.station.trans h.own_start.1.symm))] at hleaves
    cases hleaves
  rw [State.claimAxis, if_neg hown, htable.peer] at hclaim
  split at hclaim
  · next hcounted =>
    refine State.entryAfter_of_leavesRow h.left hleaves ?_ hcounted.1 (Option.some.inj hclaim)
    rw [h.adopted.engine]
    exact hk
  · cases hclaim

end

end Sys2Proof.Machine
end

section
/-! OBLIGATION O24. The Peer Table, the bind claims and the Axis Table at a close, with their records. -/

namespace Sys2Proof.Machine

section
variable {s a p q x : State} {e : Option Epoch}

/-! ### The records of steps 2 and 4 -/

theorem AdmissionSteps.epoch_start (h : AdmissionSteps s a p q x e) : q.timer.epoch = a.timer.epoch := by
  rw [h.tested.epoch, h.peers.timer]

theorem AdmissionSteps.plan_start (h : AdmissionSteps s a p q x e) : a.plan = s.plan := h.adopted.plan

/-- The records of the four steps (R81). -/
theorem AdmissionSteps.port (h : AdmissionSteps s a p q x e) : x.port = s.port.appendAll
    (s.adoptEvents e ++ allStations.flatMap a.peerEvents ++ p.selfEvents q.member.selfState ++
      allStations.flatMap q.wantsEvents) := by
  rw [h.claimed.port, h.tested.port h.unbound_of_listen, h.peers.port, h.adopted.port, allStations_take_all]
  simp only [LocalPort.appendAll_append]

/-- The sources of a row between steps 3 and 4. -/
theorem AdmissionSteps.Table.kept (h : AdmissionSteps.Table s a q) (b : Axis) :
    (rowOf q.engine.rows b).sources = (rowOf s.engine.rows b).sources.filter fun src => !a.leavesRow src.station := by
  rw [h.row]
  rfl

/-- Whether a station of lower number claims the row too. -/
theorem State.claimedBefore_eq {q : State} (hv : q.member.selfState.votes = true) (b : Axis) (k : Station) :
    q.claimedBefore b k = allStations.any fun j => decide (j.toNat < k.toNat) && q.wantsAxis j == some b := by
  have hmem (j : Station) : j ∈ allStations.take k.toNat ↔ j.toNat < k.toNat :=
    mem_take_allStations ⟨k.toNat, Nat.lt_succ_of_lt k.isLt⟩ j
  rw [Bool.eq_iff_iff, State.claimedBefore, decide_eq_true_iff, State.claimCount, List.countP_pos_iff, List.any_eq_true]
  simp only [hmem, mem_allStations, true_and, Bool.and_eq_true, decide_eq_true_eq, State.wantsAxis, if_pos hv]

/-- The delivery changes samples alone (R8). -/
theorem Row.placed_sources (r : Row) (axis : Nat) (l : List AdmittedSample) :
    (r.placed axis l).sources.map (fun src => { src with sample := none }) =
      r.sources.map fun src => { src with sample := none } := List.map_map

theorem AdmissionSteps.station (h : AdmissionSteps s a p q x e) : q.member.ownStation = s.member.ownStation ∧
    x.member.ownStation = s.member.ownStation := by
  have hq : q.member.ownStation = s.member.ownStation := by
    rw [h.tested.station, h.peers.member]
    exact h.own_start.1
  refine ⟨hq, ?_⟩
  rw [h.claimed.member]
  exact hq

theorem State.votes_of_wants {q : State} {k : Station} {b : Axis} (h : q.wantsAxis k = some b) :
    q.member.selfState.votes = true ∧ q.claimAxis k = some b := by
  rw [State.wantsAxis] at h
  split at h
  · next hv => exact ⟨hv, h⟩
  · cases h

/-- A claimant stands in the row after step 4 exactly where the row took it (R10). -/
theorem AdmissionSteps.has (h : AdmissionSteps s a p q x e) {k : Station} {b : Axis} (hw : q.wantsAxis k = some b) :
    (rowOf x.engine.rows b).has k = q.takesClaim b k := by
  have hnot := h.bound.not_has (State.listed_of_claim (State.votes_of_wants hw).2) b
  rw [Bool.eq_iff_iff, Row.has_iff]
  constructor
  · rintro ⟨src, hsrc, rfl⟩
    rcases (h.claimed.mem b src).1 hsrc with hold | ⟨j, -, htakes, hnew⟩
    · rw [(Row.has_iff ..).2 ⟨src, hold, rfl⟩] at hnot
      cases hnot
    · rw [hnew]
      exact htakes
  · exact fun htakes => ⟨q.newSource b k, (h.claimed.mem b _).2 (.inr ⟨k, hw, htakes, rfl⟩), rfl⟩

theorem State.wantsEvents_none {q : State} {k : Station} (h : q.wantsAxis k = none) : q.wantsEvents k = [] := by
  rw [State.wantsAxis] at h
  rw [State.wantsEvents]
  split at h
  · next hv => rw [if_pos hv, State.claimEvents_none h]
  · next hv => exact if_neg hv

/-- The flags of a claimant after step 4 (R101). -/
theorem AdmissionSteps.answer (h : AdmissionSteps s a p q x e) {k : Station} {b : Axis} (hw : q.wantsAxis k = some b) :
    x.flags k = (q.takesClaim b k, !q.takesClaim b k) := by
  rw [h.claimed.flags, hw]

/-- The refused flag that a claim finds (R10). -/
theorem AdmissionSteps.Table.wasRefused (h : AdmissionSteps.Table s a q) (hlockout : q.member.selfState ≠ .lockout)
    (k : Station) : (q.flags k).2 =
      if k = s.member.ownStation then s.member.ownRefused else (a.entryAfter k).refused := by
  obtain ⟨-, hown⟩ := h.flags hlockout
  rw [State.flags, h.station, hown, h.peer]
  exact apply_ite Prod.snd ..

/-! ### The rows after step 4 -/

/-- The sources that step 2 leaves in a row. -/
def State.keptSources (s a : State) (b : Axis) : List Source :=
  (rowOf s.engine.rows b).sources.filter fun src => !a.leavesRow src.station

/-- The record with which a claimant enters a row (R10). -/
def State.claimant (s a q : State) (b : Axis) (k : Station) : Source :=
  ⟨k, if (s.keptSources a b).any (fun src => src.standing == .voting) ||
      allStations.any fun j => decide (j.toNat < k.toNat) && q.wantsAxis j == some b
    then .candidate else .voting, 0, 0, none⟩

/-- The sources of a row after step 4, station by station. -/
def State.sourcesAfter (s a q x : State) (b : Axis) : List Source := allStations.filterMap fun k =>
  match (rowOf s.engine.rows b).sources.find? fun src => src.station == k with
  | some src => if a.leavesRow k then none else some src
  | none => if q.wantsAxis k = some b ∧ (x.flags k).1 = true then some (s.claimant a q b k) else none

theorem AdmissionSteps.sources (h : AdmissionSteps s a p q x e) (ht : AdmissionSteps.Table s a q) (b : Axis) :
    (rowOf x.engine.rows b).sources = s.sourcesAfter a q x b := by
  obtain ⟨-, hsound, -⟩ := tableOk_iff_rowOf.1 h.ok.1
  have hnew {k : Station} (hw : q.wantsAxis k = some b) : q.newSource b k = s.claimant a q b k := by
    rw [State.newSource, State.claimedBefore_eq (State.votes_of_wants hw).1, Row.hasVoting, ht.kept]
    rfl
  refine (hsound b).1.2.1.eq_left_joined (h.claimed.ascend b) (gone := a.leavesRow)
    (joins := fun k => q.wantsAxis k = some b ∧ (x.flags k).1 = true) (fun _ => rfl)
    (fun k hk src hsrc hstation => h.not_wants ((Row.has_iff ..).2 ⟨src, hsrc, hstation⟩) hk.1) fun src => ?_
  rw [h.claimed.mem, ht.kept, List.mem_filter, Bool.not_eq_true']
  refine or_congr Iff.rfl (exists_congr fun k => ?_)
  rw [and_assoc]
  refine and_congr_right fun hw => ?_
  rw [h.answer hw, hnew hw]

/-- A row's state after step 4: UNBOUND without sources, LOST where all are new, and else as it was (R10, R12). -/
theorem AdmissionSteps.state (h : AdmissionSteps s a p q x e) (ht : AdmissionSteps.Table s a q) (b : Axis) :
    (rowOf x.engine.rows b).state = if s.sourcesAfter a q x b = [] then .unbound
      else if s.keptSources a b = [] then .lost else (rowOf s.engine.rows b).state := by
  have hkept : (rowOf q.engine.rows b).sources = s.keptSources a b := ht.kept b
  have hkeptIn (hnil : s.sourcesAfter a q x b = []) : s.keptSources a b = [] := by
    rw [List.eq_nil_iff_forall_not_mem]
    intro src hsrc
    rw [← hkept] at hsrc
    have hin := (h.claimed.mem b src).2 (.inl hsrc)
    rw [h.sources ht, hnil] at hin
    cases hin
  have hqstate : (rowOf q.engine.rows b).state =
      if s.keptSources a b = [] then .unbound else (rowOf s.engine.rows b).state := by
    rw [ht.row]
    rfl
  rw [h.claimed.state, hkept, hqstate, h.sources ht]
  by_cases hnil : s.sourcesAfter a q x b = []
  · simp [hnil, hkeptIn hnil]
  · by_cases hk : s.keptSources a b = []
    · simp [hnil, hk]
    · simp [hnil, hk]

theorem AdmissionSteps.valueKept (h : AdmissionSteps s a p q x e) (ht : AdmissionSteps.Table s a q) (b : Axis) :
    (rowOf x.engine.rows b).value = (rowOf s.engine.rows b).value ∧
    (rowOf x.engine.rows b).holdAge = (rowOf s.engine.rows b).holdAge ∧
    (rowOf x.engine.rows b).stale = (rowOf s.engine.rows b).stale := by
  rw [h.claimed.value, h.claimed.holdAge, h.claimed.stale, ht.row]
  exact ⟨rfl, rfl, rfl⟩

/-- The records of step 4 at a station, told from the first state. -/
theorem AdmissionSteps.wantsEvents_of_claim (h : AdmissionSteps s a p q x e) {k : Station} {b : Axis}
    (hw : q.wantsAxis k = some b) : q.wantsEvents k =
      if (x.flags k).1 = true
      then (if s.keptSources a b = [] ∧
          (allStations.any fun j => decide (j.toNat < k.toNat) && q.wantsAxis j == some b) = false
        then [evRowState a.timer.epoch b.toNat .lost (rowOf s.engine.rows b).stale] else [])
      else if (if k = s.member.ownStation then s.member.ownRefused else (a.entryAfter k).refused) = false
        then [⟨.sourceRefused, a.timer.epoch, some k, some b, none⟩] else [] := by
  obtain ⟨hv, hclaim⟩ := State.votes_of_wants hw
  have ht := h.table (AdmissionSteps.fall_of_votes hv)
  have hkept : (rowOf q.engine.rows b).sources = s.keptSources a b := ht.kept b
  have hstale : (rowOf q.engine.rows b).stale = (rowOf s.engine.rows b).stale := by
    rw [ht.row]
    rfl
  rw [State.wantsEvents, if_pos hv, State.claimEvents, hclaim, ← ht.wasRefused ((SelfState.votes_iff _).1 hv).2,
    ← State.claimedBefore_eq hv, ← h.epoch_start, ← hstale, ← hkept, h.answer hw]
  refine if_congr Iff.rfl rfl ?_
  cases (q.flags k).2 <;> rfl

/-- The state that a close leaves in a row, but for the samples, is the one after step 4 (R8). -/
theorem State.admission_row (s : State) (sent : Bool) (b : Axis) :
    let r := rowOf (s.admission sent).engine.rows b
    let r' := rowOf (s.selfTested sent).claimed.engine.rows b
    r.sources.map (fun src => { src with sample := none }) = r'.sources.map (fun src => { src with sample := none }) ∧
      ((s.selfTested sent).member.selfState.votes = false → r.sources = r'.sources) ∧
      r.value = r'.value ∧ r.holdAge = r'.holdAge ∧ r.stale = r'.stale ∧ r.state = r'.state := by
  rw [State.admission_rows]
  generalize s.selfTested sent = q
  split
  · next hv => exact ⟨Row.placed_sources .., fun hn => absurd hv (Bool.eq_false_iff.1 hn), rfl, rfl, rfl, rfl⟩
  · exact ⟨rfl, fun _ => rfl, rfl, rfl, rfl, rfl⟩

end

/-- Settles O24. -/
theorem closeUpdatesPeers : Obligations.CloseUpdatesPeers := by
  intro s hseen hself htime hpos htable hpeers hlisted
  have hok : s.engine.ok s.plan := s.tableSound_iff_ok.1 htable
  have hlisting : s.closed.Listing :=
    State.Listing.congr (s := s) ⟨htable.1, hpeers.1, (s.listedSound_iff.1 hlisted).1, (s.listedSound_iff.1 hlisted).2⟩ rfl rfl
  have h := State.admission_steps hlisting hok hself s.handsSent
  obtain ⟨hmember, htimer, hport⟩ := s.closed.admission_claimed s.handsSent
  have hrow := s.closed.admission_row s.handsSent
  have hexec := exec_close hseen hself htime hpos
  generalize s.closed.admission s.handsSent = t at *
  generalize (s.closed.selfTested s.handsSent).claimed = x at *
  generalize s.closed.selfTested s.handsSent = q at *
  generalize s.closed.peersUpdated s.handsSent = p at *
  generalize s.closed.adopt (s.closed.adoption s.handsSent) = a at *
  generalize s.closed.adoption s.handsSent = e at *
  obtain ⟨hownStation, hownAxis, hownBound, hownRefused⟩ : a.member.ownStation = s.member.ownStation ∧
    a.member.ownAxis = s.member.ownAxis ∧ a.member.ownBound = s.member.ownBound ∧
    a.member.ownRefused = s.member.ownRefused := h.own_start
  have hpeer (k : Station) : a.member.peer k = s.member.peer k := h.peer_start k
  have hrecord (k : Station) : a.line.record k = s.line.record k := by
    rw [LineController.record, h.adopted.buffer]
    rfl
  have hplan : a.plan = s.plan := h.plan_start
  have hengine : a.engine = s.engine := h.adopted.engine
  have hepoch : a.timer.epoch = t.timer.epoch := by rw [htimer, h.claimed.timer, h.epoch_start]
  have hselfState : t.member.selfState = q.member.selfState := by rw [hmember, h.selfState.2]
  refine ⟨t, _, _, _, _, hexec, hport.trans h.port, ?_⟩
  intro own heard advanced entry wants bound refused wasRefused rows removed kept claimedBefore sources
  have hheard : heard = a.admitted := funext fun k => by
    show (match s.line.record k with
      | .valid f => if f.epoch = t.timer.epoch then some f else none
      | .empty | .invalid _ => none) = _
    rw [State.admitted, hrecord, hepoch]
    cases s.line.record k <;> simp [SlotRecord.frame?, Option.filter]
  have hentry : entry = a.entryAfter := funext fun k => by
    show (if k = own ∨ s.plan.n ≤ k.toNat then s.member.peer k else advanced (s.member.peer k) (heard k)) = _
    rw [State.entryAfter, hheard, hownStation, hplan, hpeer]
    refine if_congr Iff.rfl rfl ?_
    cases a.admitted k with
    | some f => exact (PeerEntry.heardAs_eq _ f).symm
    | none => exact (PeerEntry.missed_eq _).symm
  have hwants : wants = q.wantsAxis := funext fun k => by
    rw [h.wants, ← hselfState, ← hentry] <;> rfl
  have hremoved : removed = a.leavesRow := funext fun k => by
    rw [State.leavesRow, hownStation, hplan, hpeer, ← hheard] <;> rfl
  have hflags (k : Station) : x.flags k = (bound k, refused k) := by
    show _ = ((if k = own then t.member.ownBound else (t.member.peer k).bound),
      if k = own then t.member.ownRefused else (t.member.peer k).refused)
    rw [State.flags, h.station.2, hmember]
    by_cases hk : k = own
    · rw [if_pos hk, if_pos hk]
      exact if_pos hk
    · rw [if_neg hk, if_neg hk]
      exact if_neg hk
  have hkept (b : Axis) : kept b = s.closed.keptSources a b := by
    rw [State.keptSources, ← hremoved]
    rfl
  have hrowsA (b : Axis) : rowOf a.engine.rows b = rows b := by rw [hengine]
  have hbefore (b : Axis) (k : Station) : claimedBefore b k =
      allStations.any fun j => decide (j.toNat < k.toNat) && q.wantsAxis j == some b := by rw [← hwants]
  refine ⟨?_, ?_, ?_, fun hfall => ?_⟩
  · intro r hr
    rcases List.mem_append.1 hr with hr | hr
    · exact State.adoptEvents_kinds _ _ r hr
    · exact State.selfEvents_kinds _ _ r hr
  · refine List.flatMap_congr fun k _ => ?_
    rw [hheard, hremoved, State.peerEvents, State.peerRecords, hownStation, hplan, hpeer, hepoch, hrowsA]
    refine if_congr Iff.rfl rfl ?_
    cases a.admitted k <;> rfl
  · refine List.flatMap_congr fun k _ => ?_
    rw [hwants]
    cases hw : q.wantsAxis k with
    | none => exact State.wantsEvents_none hw
    | some b =>
      have hevents := h.wantsEvents_of_claim hw
      rw [hflags, ← hkept, ← hbefore, hepoch, ← hentry] at hevents
      exact hevents
  have htable := h.table (q := q) fun hq => hfall.resolve_left (by rw [hselfState, hq]; exact not_not.2 rfl)
  have htakes {b : Axis} {k : Station} (hw : q.wantsAxis k = some b) :
      bound k = q.takesClaim b k ∧ refused k = !q.takesClaim b k := by
    have hanswer := h.answer hw
    rw [hflags] at hanswer
    exact Prod.mk.inj hanswer
  have hunclaimed {k : Station} (hw : q.wantsAxis k = none) : (bound k, refused k) = q.flags k := by
    have hclaimed := h.claimed.flags k
    rwa [hw, hflags] at hclaimed
  have hsources (b : Axis) : (rowOf x.engine.rows b).sources = sources b := by
    rw [h.sources htable]
    refine List.filterMap_congr fun k _ => ?_
    rw [hflags, ← hremoved, ← hwants, State.claimant, ← hkept, ← hbefore] <;> rfl
  refine ⟨fun k => ?_, fun k hk hw => ?_, fun hw hlockout => ?_, fun k b hw => ?_, fun b => ?_⟩
  · rw [hmember, h.claimed.peer, htable.peer, hentry]
  · have hflag := hunclaimed (hwants ▸ hw)
    rw [State.flags, htable.station, htable.peer, ← hentry] at hflag
    have hother := Prod.mk.inj (hflag.trans (if_neg hk))
    have hboundk : bound k = (t.member.peer k).bound := if_neg hk
    have hrefusedk : refused k = (t.member.peer k).refused := if_neg hk
    rw [← hboundk, ← hrefusedk]
    exact hother
  · have hflag := hunclaimed (hwants ▸ hw)
    obtain ⟨hownb, hownr⟩ := htable.flags (hselfState ▸ hlockout)
    rw [State.flags, htable.station, hownb, hownr] at hflag
    have hownflags := Prod.mk.inj (hflag.trans (if_pos rfl))
    have hboundk : bound own = t.member.ownBound := if_pos rfl
    have hrefusedk : refused own = t.member.ownRefused := if_pos rfl
    rw [← hboundk, ← hrefusedk]
    exact hownflags
  · rw [hwants] at hw
    obtain ⟨hb, hr⟩ := htakes hw
    refine ⟨?_, fun hbk => ⟨?_, fun j hj hwj => ?_⟩, fun hbk => ⟨?_, ?_⟩⟩
    · have hstations := congrArg (List.map Source.station) (hrow b).1
      simp only [List.map_map, Function.comp_def] at hstations
      rw [Row.has_eq_of_stations hstations, h.has hw, hb]
    · rw [hr, ← hb, hbk]
      rfl
    · rw [hwants] at hwj
      rw [(htakes hwj).1]
      exact State.takesClaim_of_lt (hb ▸ hbk) hj
    · rw [hr, ← hb, hbk]
      rfl
    · have hlength := congrArg List.length (hrow b).1
      rw [List.length_map, List.length_map] at hlength
      rw [hlength]
      exact h.claimed.full b k hw (hb ▸ hbk)
  · obtain ⟨hmap, hsame, hvalue, hage, hstale, hstate⟩ := hrow b
    obtain ⟨hvalueX, hageX, hstaleX⟩ := h.valueKept htable b
    refine ⟨by rw [hmap, hsources], fun hself' => ?_, hvalue.trans hvalueX, hage.trans hageX, hstale.trans hstaleX, ?_⟩
    · rw [hsame, hsources]
      rw [hselfState] at hself'
      rw [Bool.eq_false_iff, Ne, SelfState.votes_iff]
      tauto
    · rw [hstate, h.state htable, ← h.sources htable, hsources, ← hkept] <;> rfl

end Sys2Proof.Machine
end

section
/-! SUPPORT. The samples that the Admission List places in the rows (R8, R102). -/

namespace Sys2Proof.Machine

theorem find?_eq_some_of_unique {α : Type} {p : α → Bool} {l : List α} {y : α} (hy : y ∈ l) (hp : p y = true)
    (hunique : ∀ z ∈ l, p z = true → z = y) : l.find? p = some y := by
  cases hf : l.find? p with
  | none => exact absurd hp (List.find?_eq_none.1 hf y hy)
  | some z => rw [hunique z (List.mem_of_find?_eq_some hf) (List.find?_some hf)]

/-- The entry of a peer's admitted frame (Table 5-8). -/
def FrameRecord.entry (f : FrameRecord) (k : Station) : AdmittedSample := ⟨k, f.axis, f.angle, f.velocity, f.usable⟩

theorem State.mem_admissionList {s : State} {before : SelfState} {z : AdmittedSample} : z ∈ s.admissionList before ↔
    (∃ k f, s.admitted k = some f ∧ z = f.entry k) ∨ (s.member.selfState.member = true ∧ z = s.ownEntry before) := by
  simp only [State.admissionList, List.mem_flatMap, mem_allStations, true_and, List.mem_append, Option.mem_toList,
    Option.map_eq_some_iff]
  constructor
  · rintro ⟨k, ⟨f, hf, rfl⟩ | hown⟩
    · exact .inl ⟨k, f, hf, rfl⟩
    · split at hown
      · next hc => exact .inr ⟨hc.1, List.mem_singleton.1 hown⟩
      · cases hown
  · rintro (⟨k, f, hf, rfl⟩ | ⟨hself, rfl⟩)
    · exact ⟨k, .inl ⟨f, hf, rfl⟩⟩
    · refine ⟨s.member.ownStation, .inr ?_⟩
      rw [if_pos ⟨hself, rfl⟩]
      exact List.mem_singleton.2 rfl

section
variable {src : Source} {b : Axis} {l : List AdmittedSample}

theorem Source.place_eq_none (h : ∀ z ∈ l, z.station = src.station → z.axis ≠ b) :
    (src.place b.toNat l).sample = none := by
  rw [Source.place, List.find?_eq_none.2]
  · rfl
  · intro z hz
    simp only [Bool.and_eq_true, beq_iff_eq, not_and]
    exact fun hstation haxis => h z hz hstation (BitVec.eq_of_toNat_eq haxis)

theorem Source.place_eq_some {y : AdmittedSample} (hy : y ∈ l) (hstation : y.station = src.station) (haxis : y.axis = b)
    (hunique : ∀ z ∈ l, z.station = src.station → z = y) :
    (src.place b.toNat l).sample = some ⟨y.angle, y.velocity, y.usable⟩ := by
  rw [Source.place, find?_eq_some_of_unique hy]
  · rfl
  · simp [hstation, haxis]
  · intro z hz hp
    simp only [Bool.and_eq_true, beq_iff_eq] at hp
    exact hunique z hz hp.1
end

theorem FrameRecord.usable_eq (f : FrameRecord) : f.usable = (f.state == .active && f.flags == ⟨false, false, false⟩) := by
  have hflags (g : SampleFlags) : (!g.test && !g.settling && !g.sensorFault) = (g == ⟨false, false, false⟩) := by
    obtain ⟨_ | _, _ | _, _ | _⟩ := g <;> rfl
  rw [← hflags, FrameRecord.usable, Bool.and_assoc, Bool.and_assoc, Bool.and_assoc]

/-- What a delivery places in the sources of a row, where the own station has no admitted frame (R8, R102). -/
theorem State.place_admissionList {s : State} (hown : s.admitted s.member.ownStation = none) (before : SelfState)
    (src : Source) (b : Axis) :
    (src.station ≠ s.member.ownStation → ∀ f, s.admitted src.station = some f → f.axis = b →
      (src.place b.toNat (s.admissionList before)).sample = some ⟨f.angle, f.velocity, f.usable⟩) ∧
    (src.station ≠ s.member.ownStation → (∀ f, s.admitted src.station = some f → f.axis ≠ b) →
      (src.place b.toNat (s.admissionList before)).sample = none) ∧
    (src.station = s.member.ownStation → s.member.selfState.member = true → b = s.member.ownAxis →
      (src.place b.toNat (s.admissionList before)).sample =
        some ⟨s.sensor.sample.angle, s.sensor.sample.velocity, (s.ownEntry before).usable⟩) ∧
    (src.station = s.member.ownStation → (s.member.selfState.member = false ∨ b ≠ s.member.ownAxis) →
      (src.place b.toNat (s.admissionList before)).sample = none) := by
  refine ⟨fun hne f hf haxis => ?_, fun hne haxis => ?_, fun heq hself haxis => ?_, fun heq hnot => ?_⟩
  · refine Source.place_eq_some (y := f.entry src.station) (mem_admissionList.2 (.inl ⟨_, f, hf, rfl⟩)) rfl haxis
      fun z hz hstation => ?_
    rcases mem_admissionList.1 hz with ⟨k, g, hg, rfl⟩ | ⟨-, rfl⟩
    · obtain rfl : k = src.station := hstation
      rw [hg] at hf
      rw [Option.some.inj hf]
    · exact absurd hstation.symm hne
  · refine Source.place_eq_none fun z hz hstation => ?_
    rcases mem_admissionList.1 hz with ⟨k, g, hg, rfl⟩ | ⟨-, rfl⟩
    · obtain rfl : k = src.station := hstation
      exact haxis g hg
    · exact absurd hstation.symm hne
  · refine Source.place_eq_some (y := s.ownEntry before) (mem_admissionList.2 (.inr ⟨hself, rfl⟩)) heq.symm haxis.symm
      fun z hz hstation => ?_
    rcases mem_admissionList.1 hz with ⟨k, g, hg, rfl⟩ | ⟨-, rfl⟩
    · obtain rfl : k = src.station := hstation
      rw [heq, hown] at hg
      cases hg
    · rfl
  · refine Source.place_eq_none fun z hz hstation => ?_
    rcases mem_admissionList.1 hz with ⟨k, g, hg, rfl⟩ | ⟨hself, rfl⟩
    · obtain rfl : k = src.station := hstation
      rw [heq, hown] at hg
      cases hg
    · rcases hnot with hnot | hnot
      · rw [hself] at hnot
        cases hnot
      · exact Ne.symm hnot

end Sys2Proof.Machine
end

section
/-! SUPPORT. What step 3 tests at a close: the frames admitted, those of PRESENT peers, the own station in them (R90 to R94). -/

namespace Sys2Proof.Machine

theorem mismatchClose_iff (buffer : List SlotRecord) : mismatchClose buffer = true ↔ .invalid .plan ∈ buffer ∧
    ∀ r ∈ buffer, r ≠ .invalid .slot ∧ r ≠ .invalid .own ∧ ∀ f, r ≠ .valid f := by
  have hframe (r : SlotRecord) : r.frame?.isSome = false ↔ ∀ f, r ≠ .valid f := by
    rw [Option.isSome_eq_false_iff, Option.isNone_iff_eq_none, Option.eq_none_iff_forall_ne_some]
    exact forall_congr' fun f => not_congr SlotRecord.frame?_eq_some
  rw [mismatchClose, Bool.and_eq_true, Bool.not_eq_true', List.any_eq_true, List.any_eq_false]
  simp only [beq_iff_eq, exists_eq_right, Bool.or_eq_true, not_or]
  refine and_congr Iff.rfl (forall₂_congr fun r _ => ?_)
  rw [Bool.not_eq_true, hframe]
  tauto

theorem State.mem_admittedFrames {s : State} {k : Station} {f : FrameRecord} :
    (k, f) ∈ s.admittedFrames ↔ s.admitted k = some f := by
  simp only [State.admittedFrames, List.mem_filterMap, mem_allStations, true_and, Option.map_eq_some_iff, Prod.mk.injEq]
  constructor
  · rintro ⟨_, _, hf, rfl, rfl⟩
    exact hf
  · exact fun hf => ⟨k, f, hf, rfl, rfl⟩

theorem State.admittedFrames_eq_nil {s : State} : s.admittedFrames = [] ↔ ∀ k f, s.admitted k ≠ some f := by
  rw [List.eq_nil_iff_forall_not_mem]
  exact ⟨fun h k f hf => h (k, f) (mem_admittedFrames.2 hf), fun h c hc => h c.1 c.2 (mem_admittedFrames.1 hc)⟩

theorem State.mem_presentFrames {s : State} {f : FrameRecord} :
    f ∈ s.presentFrames ↔ ∃ k, s.admitted k = some f ∧ (s.member.peer k).state = .present := by
  simp only [State.presentFrames, List.mem_map, List.mem_filter, beq_iff_eq, Prod.exists, exists_eq_right,
    State.mem_admittedFrames]

theorem State.admitted_eq_some {s : State} {k : Station} {f : FrameRecord} :
    s.admitted k = some f ↔ s.line.record k = .valid f ∧ f.epoch = s.timer.epoch := by
  rw [State.admitted, Option.filter_eq_some_iff, SlotRecord.frame?_eq_some, beq_iff_eq]

section
variable {s a p q x : State} {e : Option Epoch}

theorem AdmissionSteps.admitted (h : AdmissionSteps s a p q x e) (k : Station) : p.admitted k = a.admitted k :=
  State.admitted_congr h.peers.timer h.peers.line k

/-- A peer whose frame is admitted is PRESENT after step 2 unless it was ABSENT (Table 5-6). -/
theorem AdmissionSteps.present_iff (h : AdmissionSteps s a p q x e)
    (hown : ∀ f, s.line.record s.member.ownStation ≠ .valid f)
    (habsent : ∀ k, s.plan.n ≤ k.toNat → (s.member.peer k).state = .absent) {k : Station} {f : FrameRecord}
    (hf : a.admitted k = some f) : (p.member.peer k).state = .present ↔ (s.member.peer k).state ≠ .absent := by
  have hpeer := h.peers.peer k
  rw [if_pos k.isLt] at hpeer
  have hrecord : s.line.record k = .valid f := by
    have hvalid := (State.admitted_eq_some.1 hf).1
    rw [LineController.record, h.adopted.buffer] at hvalid
    exact hvalid
  have hne : k ≠ s.member.ownStation := by
    rintro rfl
    exact hown f hrecord
  rw [hpeer]
  by_cases hk : s.plan.n ≤ k.toNat
  · have hkept : a.entryAfter k = a.member.peer k := if_pos (.inr (h.plan_start ▸ hk))
    rw [hkept, h.peer_start, habsent k hk]
    decide
  · have hin : ¬(k = a.member.ownStation ∨ a.plan.n ≤ k.toNat) := by
      rw [h.own_start.1, h.plan_start]
      exact not_or.2 ⟨hne, hk⟩
    have hentry := a.entryAfter_eq hin
    simp only [hf] at hentry
    rw [hentry, h.peer_start, PeerEntry.heardAs_eq]
    by_cases hs : (s.member.peer k).state = .absent <;> simp [hs]

/-- The frames of peers that were not ABSENT, as step 3 finds them. -/
theorem AdmissionSteps.mem_presentFrames (h : AdmissionSteps s a p q x e)
    (hown : ∀ f, s.line.record s.member.ownStation ≠ .valid f)
    (habsent : ∀ k, s.plan.n ≤ k.toNat → (s.member.peer k).state = .absent) {f : FrameRecord} :
    f ∈ p.presentFrames ↔ ∃ k, a.admitted k = some f ∧ (s.member.peer k).state ≠ .absent := by
  rw [State.mem_presentFrames]
  refine exists_congr fun k => ?_
  rw [h.admitted]
  exact and_congr_right fun hf => h.present_iff hown habsent hf

theorem AdmissionSteps.heardBy_iff (h : AdmissionSteps s a p q x e)
    (hown : ∀ f, s.line.record s.member.ownStation ≠ .valid f)
    (habsent : ∀ k, s.plan.n ≤ k.toNat → (s.member.peer k).state = .absent) :
    p.heardBy p.presentFrames = true ↔ ∃ k f, (a.admitted k = some f ∧ (s.member.peer k).state ≠ .absent) ∧
      f.heard.getLsbD s.member.ownStation.toNat = true := by
  have hstation : p.member.ownStation = s.member.ownStation := by
    rw [h.peers.member]
    exact h.own_start.1
  rw [State.heardBy, List.any_eq_true, hstation]
  simp only [h.mem_presentFrames hown habsent, inSet]
  constructor
  · rintro ⟨f, ⟨k, hf⟩, hheard⟩
    exact ⟨k, f, hf, hheard⟩
  · rintro ⟨k, f, hf, hheard⟩
    exact ⟨f, ⟨k, hf⟩, hheard⟩

theorem AdmissionSteps.presentFrames_eq_nil (h : AdmissionSteps s a p q x e)
    (hown : ∀ f, s.line.record s.member.ownStation ≠ .valid f)
    (habsent : ∀ k, s.plan.n ≤ k.toNat → (s.member.peer k).state = .absent) :
    p.presentFrames = [] ↔ ∀ k f, ¬(a.admitted k = some f ∧ (s.member.peer k).state ≠ .absent) := by
  rw [List.eq_nil_iff_forall_not_mem]
  simp only [h.mem_presentFrames hown habsent, not_exists]
  exact forall_comm

end

/-! ### Entries to JOINING and LISTEN -/

/-- An entry to JOINING at the Membership Unit, the Sensor Interface and the tests (R92, R124, R170). -/
structure Joined (s t : State) : Prop where
  self : t.member.selfState = .joining
  joinRun : t.member.joinRun = 0
  joinEpochs : t.member.joinEpochs = 0
  conv : t.sensor.conv = .acquire
  acqCount : t.sensor.acqCount = 0
  window : t.sensor.window = []
  excitation : t.sensor.excitation = s.timer.origin
  tests : ∀ r ∈ s.tests.running, (r.code = .inject ∨ r.code = .monitor) →
    t.tests = ⟨none, some ⟨r.code, .aborted .state, some s.timer.epoch⟩⟩

theorem State.join_joined (s : State) : Joined s s.join := by
  obtain ⟨-, hsensor, htests, -⟩ := s.enterJoining_blocks
  have hmember : s.join.member = _ := State.enterJoining_member s
  have hsens : s.join.sensor = _ := hsensor
  have htest : s.join.tests = _ := htests
  refine ⟨by rw [hmember], by rw [hmember], by rw [hmember], by rw [hsens], by rw [hsens], by rw [hsens], by rw [hsens],
    fun r hr hc => ?_⟩
  rw [htest, s.abortTest_state.1, hr]
  exact if_pos (TestCode.marksSample_cases.2 hc)

theorem Joined.congr {s t u : State} (h : Joined s t) (hself : u.member.selfState = t.member.selfState)
    (hrun : u.member.joinRun = t.member.joinRun) (hepochs : u.member.joinEpochs = t.member.joinEpochs)
    (hsensor : u.sensor = t.sensor) (htests : u.tests = t.tests) : Joined s u where
  self := hself.trans h.self
  joinRun := hrun.trans h.joinRun
  joinEpochs := hepochs.trans h.joinEpochs
  conv := hsensor ▸ h.conv
  acqCount := hsensor ▸ h.acqCount
  window := hsensor ▸ h.window
  excitation := hsensor ▸ h.excitation
  tests := fun r hr hc => htests.trans (h.tests r hr hc)

end Sys2Proof.Machine
end

section
/-! SUPPORT. What a close leaves after each outcome of step 3, and the vote it starts (R7, R8, R19, R90 to R95, R102). -/

namespace Sys2Proof.Machine

/-! ### Step 3 by the self state -/

section
variable {s : State} (before : SelfState) (sent adopted : Bool)

theorem State.testSelf_listen (h : s.member.selfState = .listen) : s.testSelf before sent adopted = s.testListen adopted := by
  rw [State.testSelf, h]

theorem State.testSelf_joining (h : s.member.selfState = .joining) :
    s.testSelf before sent adopted = if before = .joining ∧ sent then s.testJoining adopted else s := by
  rw [State.testSelf, h]

theorem State.testSelf_active (h : s.member.selfState = .active) :
    s.testSelf before sent adopted = if sent then s.testActive else s := by
  rw [State.testSelf, h]

theorem State.testSelf_other (h : s.member.selfState = .leaving ∨ s.member.selfState = .withdrawn) :
    s.testSelf before sent adopted = s := by
  rcases h with h | h <;> rw [State.testSelf, h]
end

/-! ### A fall to LISTEN and an entry to LOCKOUT -/

theorem State.fallToListen_member_eq {s u : State} (hstation : u.member.ownStation = s.member.ownStation)
    (haxis : u.member.ownAxis = s.member.ownAxis) : u.fallToListen.member = { s.member with
      selfState := .listen, listenRun := 0, mismatchRun := 0, joinRun := 0, joinEpochs := 0, unheardRun := 0
      ownBound := false, ownRefused := false, peers := List.replicate 16 PeerEntry.cleared } := by
  simp only [State.fallToListen, hstation, haxis]

theorem State.mismatchLockout_faults (s : State) : s.mismatchLockout.faults = s.faults.set .planMismatch := by
  rw [State.mismatchLockout, State.emit_faults, State.emit_faults, State.enterLockout_faults]
  rfl

/-- A step 3 that finds no vote in flight starts none. -/
theorem SelfTested.vote {p q : State} (h : SelfTested p q) (hvote : p.engine.vote = none) : q.engine.vote = none := by
  cases h with
  | same | listens | activates | counts | unheard => exact hvote
  | fails | falls => rfl
  | joins =>
    rw [State.join, State.emit_engine, p.countMismatch.enterJoining_blocks.2.2.2.2]
    exact hvote
  | mismatch =>
    obtain ⟨-, -, -, hq⟩ := ((p.countMismatch.setListenRun 0).setFault .planMismatch).enterLockout_rest
    rw [State.mismatchLockout, State.emit_engine, State.emit_engine, hq, State.abortedVote]
    have hnone : ((p.countMismatch.setListenRun 0).setFault .planMismatch).engine.vote = none := hvote
    rw [hnone, Option.map_none]

/-! ### The end of a close -/

/-- The last state of a close: a delivery where votes are taken, else the state that step 3 left (R81). -/
theorem State.admission_eq_claimed (s : State) (sent : Bool) : s.admission sent =
    if (s.selfTested sent).member.selfState.votes
    then (s.selfTested sent).claimed.deliver ((s.selfTested sent).claimed.admissionList s.member.selfState)
    else s.selfTested sent := by
  rw [State.admission_eq]
  generalize s.selfTested sent = q
  by_cases hv : q.member.selfState.votes = true
  · rw [State.claimed, if_pos hv, if_pos hv, if_pos hv]
  · rw [if_neg hv, if_neg hv]

section
variable {s a p q x : State} {e : Option Epoch}

/-- The members after steps 1 and 2, where no ACTIVE station adopts. -/
theorem AdmissionSteps.kept (h : AdmissionSteps s a p q x e) (hk : s.member.selfState = .active → e = none) :
    p.member = { s.member with peers := p.member.peers } ∧ p.tests = s.tests ∧ p.faults = s.faults := by
  obtain ⟨hmember, htests⟩ := h.adopted.kept hk
  have hsame := h.updated
  refine ⟨?_, ?_, ?_⟩
  · rw [h.peers.member, hmember]
  · rw [hsame.tests, htests]
  · rw [hsame.faults, h.adopted.faults]

end

end Sys2Proof.Machine
end

section
/-! SUPPORT. The end of a close, told from its beginning: what was heard, what was known, and what an entry to JOINING, to LISTEN and
an abort leave (R80, R90 to R95, R170). -/

namespace Sys2Proof.Machine

/-! ### The words of the close, from the state before it and the one after it -/

/-- An admitted frame of a station (R83). -/
def State.heardAt (s t : State) (k : Station) (f : FrameRecord) : Prop :=
  s.line.record k = .valid f ∧ f.epoch = t.timer.epoch

/-- An admitted frame of a station that was not ABSENT. -/
def State.presentAt (s t : State) (k : Station) (f : FrameRecord) : Prop :=
  s.heardAt t k f ∧ (s.member.peer k).state ≠ .absent

/-- Whether a PRESENT peer heard the own station (R93, R94). -/
def State.knownAt (s t : State) : Prop :=
  ∃ k f, s.presentAt t k f ∧ f.heard.getLsbD s.member.ownStation.toNat = true

/-- A plan-mismatch close (R91). -/
def State.mismatchAt (s : State) : Prop :=
  (.invalid .plan) ∈ s.line.buffer ∧ ∀ r ∈ s.line.buffer, r ≠ .invalid .slot ∧ r ≠ .invalid .own ∧ ∀ f, r ≠ .valid f

/-- The record of an abort at the close (R170). -/
def State.abortedAt (s t : State) (why : AbortReason) : List EventRecord :=
  match s.tests.running with
  | some r => if why ≠ .state ∨ r.code = .inject ∨ r.code = .monitor
    then [evTestDone t.timer.epoch r.code (.aborted why)] else []
  | none => []

/-- An entry to JOINING at the close (R92). -/
def State.joinsAt (s t : State) : Prop :=
  t.member.selfState = .joining ∧ t.member.joinRun = 0 ∧ t.member.joinEpochs = 0 ∧
    t.sensor.conv = .acquire ∧ t.sensor.acqCount = 0 ∧ t.sensor.window = [] ∧
    t.sensor.excitation = s.timer.origin ∧
    ∀ r ∈ s.tests.running, (r.code = .inject ∨ r.code = .monitor) →
      t.tests = ⟨none, some ⟨r.code, .aborted .state, some t.timer.epoch⟩⟩

/-- A fall to LISTEN at the close (R95). -/
def State.fallsAt (s t : State) : Prop :=
  t.member = { s.member with
      selfState := .listen, listenRun := 0, mismatchRun := 0, joinRun := 0, joinEpochs := 0, unheardRun := 0
      ownBound := false, ownRefused := false, peers := List.replicate 16 PeerEntry.cleared } ∧
    t.engine.rows = List.replicate 8 Row.cleared ∧ t.timer.deadline = none ∧ t.timer.listenTimer = 0

/-! ### A close and its steps -/

theorem State.abortEvents_eq {s t u : State} (htests : u.tests = s.tests) (he : u.timer.epoch = t.timer.epoch)
    (why : AbortReason) : u.abortEvents why = s.abortedAt t why := by
  have hreaches (c : TestCode) : why.reaches c = true ↔ why ≠ .state ∨ c = .inject ∨ c = .monitor := by
    cases why <;> cases c <;> decide
  rw [State.abortEvents, State.abortedAt, htests, he]
  cases s.tests.running with
  | none => rfl
  | some r => exact if_congr (hreaches r.code) rfl rfl

theorem State.adoption_ne {s : State} {sent : Bool} {v : Epoch} (h : s.adoption sent = some v) : v ≠ s.timer.epoch := by
  rw [State.adoption, Option.filter_eq_some_iff, bne_iff_ne] at h
  exact h.2

/-- A close at `s` that ends in `t`, with the states between its steps. -/
structure ClosedBy (s a p q x t : State) (e : Option Epoch) (sent : Bool) : Prop where
  steps : AdmissionSteps s.closed a p q x e
  own : ∀ f, s.line.record s.member.ownStation ≠ .valid f
  absent : ∀ k : Station, s.plan.n ≤ k.toNat → (s.member.peer k).state = .absent
  adoption_ne : ∀ v, e = some v → v ≠ s.timer.epoch
  sent_iff : s.member.selfState = .joining ∨ s.member.selfState = .active → (sent = true ↔ s.line.outcome = .sent)
  tested : q = p.testSelf s.member.selfState sent e.isSome
  ended : t = if q.member.selfState.votes then x.deliver (x.admissionList s.member.selfState) else q
  member : t.member = x.member
  timer : t.timer = x.timer
  port : t.port = x.port
  same : SameButMembers q t

theorem State.closedBy {s : State} (hself : s.member.selfState ≠ .lockout) (htable : s.tableSound) (hpeers : s.peersSound)
    (hlisted : s.listedSound) (hown : ∀ f, s.line.record s.member.ownStation ≠ .valid f) :
    ClosedBy s (s.closed.adopt (s.closed.adoption s.handsSent)) (s.closed.peersUpdated s.handsSent)
      (s.closed.selfTested s.handsSent) (s.closed.selfTested s.handsSent).claimed (s.closed.admission s.handsSent)
      (s.closed.adoption s.handsSent) s.handsSent := by
  have hlisting : s.closed.Listing :=
    State.Listing.congr (s := s) ⟨htable.1, hpeers.1, (s.listedSound_iff.1 hlisted).1, (s.listedSound_iff.1 hlisted).2⟩ rfl rfl
  obtain ⟨hmember, htimer, hport⟩ := s.closed.admission_claimed s.handsSent
  refine ⟨State.admission_steps hlisting (s.tableSound_iff_ok.1 htable) hself s.handsSent, hown, hpeers.2.2.2,
    fun v hv => State.adoption_ne hv, fun hsends => ⟨fun hs => (s.sent_of_handsSent hs).1, fun ho => ?_⟩, rfl,
    s.closed.admission_eq_claimed s.handsSent, hmember, htimer, hport, s.closed.admission_same s.handsSent⟩
  rcases hsends with hs | hs
  · exact s.handsSent_of_sent ho (by rw [hs]; rfl) (by simp [State.sentAfterLeaving, hs])
  · exact s.handsSent_of_sent ho (by rw [hs]; rfl) (by simp [State.sentAfterLeaving, hs])

section
variable {s a p q x t : State} {e : Option Epoch} {sent : Bool}

theorem ClosedBy.runs (h : ClosedBy s a p q x t e sent) : t.member = { q.member with
    peers := t.member.peers, ownBound := t.member.ownBound, ownRefused := t.member.ownRefused } := by
  rw [h.member]
  exact h.steps.claimed.member

theorem ClosedBy.self (h : ClosedBy s a p q x t e sent) : t.member.selfState = q.member.selfState := by rw [h.runs]

theorem ClosedBy.epochs (h : ClosedBy s a p q x t e sent) : a.timer.epoch = t.timer.epoch ∧ p.timer.epoch = t.timer.epoch ∧
    t.timer.epoch = e.getD s.timer.epoch := by
  have ha : a.timer.epoch = t.timer.epoch := by rw [h.timer, h.steps.claimed.timer, h.steps.epoch_start]
  refine ⟨ha, ?_, ?_⟩
  · rw [h.steps.peers.timer, ha]
  · rw [← ha]
    exact h.steps.adopted.epoch

theorem ClosedBy.stays (h : ClosedBy s a p q x t e sent) (hv : q.member.selfState.votes = false) : t = q := by
  rw [h.ended, if_neg (Bool.eq_false_iff.1 hv)]

theorem ClosedBy.adopted_iff (h : ClosedBy s a p q x t e sent) : t.timer.epoch ≠ s.timer.epoch ↔ e.isSome = true := by
  have hepoch := h.epochs.2.2
  have hne := h.adoption_ne
  rw [hepoch]
  cases e with
  | none => simp
  | some v => simpa using hne v rfl

theorem ClosedBy.adopted_none (h : ClosedBy s a p q x t e sent) (hno : ¬t.timer.epoch ≠ s.timer.epoch) : e = none := by
  rwa [h.adopted_iff, Bool.not_eq_true, Option.isSome_eq_false_iff, Option.isNone_iff_eq_none] at hno

theorem ClosedBy.heard_iff (h : ClosedBy s a p q x t e sent) (k : Station) (f : FrameRecord) :
    a.admitted k = some f ↔ s.heardAt t k f := by
  rw [State.admitted_eq_some, h.epochs.1, LineController.record, h.steps.adopted.buffer]
  rfl

theorem ClosedBy.admittedFrames (h : ClosedBy s a p q x t e sent) :
    p.admittedFrames = [] ↔ ∀ k f, ¬s.heardAt t k f := by
  rw [State.admittedFrames_eq_nil]
  simp only [h.steps.admitted]
  exact forall₂_congr fun k f => not_congr (h.heard_iff k f)

theorem ClosedBy.presentFrames (h : ClosedBy s a p q x t e sent) :
    p.presentFrames = [] ↔ ∀ k f, ¬s.presentAt t k f := by
  rw [h.steps.presentFrames_eq_nil h.own h.absent]
  exact forall₂_congr fun k f => not_congr (and_congr (h.heard_iff k f) Iff.rfl)

theorem ClosedBy.heardBy (h : ClosedBy s a p q x t e sent) : p.heardBy p.presentFrames = true ↔ s.knownAt t := by
  rw [h.steps.heardBy_iff h.own h.absent]
  exact exists₂_congr fun k f => and_congr (and_congr (h.heard_iff k f) Iff.rfl) Iff.rfl

theorem ClosedBy.kept (h : ClosedBy s a p q x t e sent) (hk : s.member.selfState = .active → e = none) :
    p.member = { s.member with peers := p.member.peers } ∧ p.tests = s.tests ∧ p.faults = s.faults := h.steps.kept hk

theorem ClosedBy.buffer (h : ClosedBy s a p q x t e sent) : p.line.buffer = s.line.buffer := by
  rw [h.steps.peers.line, h.steps.adopted.buffer]
  rfl

theorem ClosedBy.joins (h : ClosedBy s a p q x t e sent) {u : State} (hu : Joined u q)
    (horigin : u.timer.origin = s.timer.origin) (htests : u.tests = s.tests) (he : u.timer.epoch = t.timer.epoch) :
    s.joinsAt t := by
  have ht : Joined u t := hu.congr h.self (by rw [h.runs]) (by rw [h.runs]) h.same.sensor h.same.tests
  exact ⟨ht.self, ht.joinRun, ht.joinEpochs, ht.conv, ht.acqCount, ht.window, ht.excitation.trans horigin,
    fun r hr hc => he ▸ ht.tests r (htests ▸ hr) hc⟩

theorem ClosedBy.falls (h : ClosedBy s a p q x t e sent) {u : State} (hstation : u.member.ownStation = s.member.ownStation)
    (haxis : u.member.ownAxis = s.member.ownAxis) (hm : q.member = u.fallToListen.member)
    (hr : q.engine.rows = u.fallToListen.engine.rows) (ht : q.timer = u.fallToListen.timer) : s.fallsAt t := by
  have hv : q.member.selfState.votes = false := by
    rw [hm]
    rfl
  rw [State.fallsAt, h.stays hv, hm, hr, ht]
  exact ⟨State.fallToListen_member_eq hstation haxis, rfl, rfl, rfl⟩

end

end Sys2Proof.Machine
end

section
/-! SUPPORT. The three self states that step 3 tests, with what each outcome leaves and its records (R90 to R95). -/

namespace Sys2Proof.Machine

section
variable {s a p q x t : State} {e : Option Epoch} {sent : Bool}

/-! ### ACTIVE -/

/-- An ACTIVE station that adopts a number enters JOINING in step 1 (R83, R92). -/
theorem ClosedBy.active_adopts (h : ClosedBy s a p q x t e sent) (hactive : s.member.selfState = .active)
    (hadopted : t.timer.epoch ≠ s.timer.epoch) : s.joinsAt t ∧ p.selfEvents q.member.selfState = [] ∧
      s.adoptEvents e = evPlain .resync t.timer.epoch :: evStationState t.timer.epoch .joining :: s.abortedAt t .state := by
  obtain ⟨v, rfl⟩ := Option.isSome_iff_exists.1 (h.adopted_iff.1 hadopted)
  have hepoch : t.timer.epoch = v := h.epochs.2.2
  have hjoin : Joined (s.closed.resynced v) a := by
    rw [h.steps.adopted.entered v rfl hactive]
    exact State.join_joined _
  have hpself : p.member.selfState = .joining := by rw [h.steps.selfState.1, hjoin.self]
  have hqp : q = p := by
    rw [h.tested, State.testSelf_joining _ _ _ hpself, hactive]
    exact if_neg fun hc => by cases hc.1
  have hq : Joined (s.closed.resynced v) q := by
    rw [hqp]
    exact hjoin.congr h.steps.selfState.1 (by rw [h.steps.peers.member]) (by rw [h.steps.peers.member])
      h.steps.updated.sensor h.steps.updated.tests
  refine ⟨h.joins hq rfl rfl hepoch.symm, State.selfEvents_kept (by rw [hqp]), ?_⟩
  have habort : (s.resynced v).abortEvents .state = s.abortedAt t .state := State.abortEvents_eq rfl hepoch.symm .state
  rw [State.adoptEvents, if_pos hactive, State.joiningEvents, habort, hepoch]
  rfl

/-- An ACTIVE station that adopts none (R94). -/
theorem ClosedBy.active_goes_on (h : ClosedBy s a p q x t e sent) (hactive : s.member.selfState = .active)
    (hno : ¬t.timer.epoch ≠ s.timer.epoch) :
    ((s.line.outcome ≠ .sent ∨ ∀ k f, ¬s.presentAt t k f) →
      t.member.selfState = .active ∧ t.member.unheardRun = s.member.unheardRun ∧ p.selfEvents q.member.selfState = []) ∧
    (s.line.outcome = .sent → s.knownAt t →
      t.member.selfState = .active ∧ t.member.unheardRun = 0 ∧ p.selfEvents q.member.selfState = []) ∧
    (s.line.outcome = .sent → (∃ k f, s.presentAt t k f) → ¬s.knownAt t →
      (s.member.unheardRun < 3 → t.member.selfState = .active ∧ t.member.unheardRun = s.member.unheardRun + 1 ∧
        p.selfEvents q.member.selfState = []) ∧
      (3 ≤ s.member.unheardRun → s.fallsAt t ∧ t.faults = ⟨s.faults.held ||| 0b0001000000#10, true⟩ ∧
        p.selfEvents q.member.selfState =
          (if s.faults.held.getLsbD 6 then [] else [evFaultHeld t.timer.epoch .txUnheard])
            ++ [evStationState t.timer.epoch .listen])) := by
  obtain ⟨hp, -, hfaults⟩ := h.kept fun _ => h.adopted_none hno
  have hpself : p.member.selfState = .active := by rw [hp, hactive]
  have hprun : p.member.unheardRun = s.member.unheardRun := by rw [hp]
  have hq : q = if sent then p.testActive else p := h.tested.trans (State.testSelf_active _ _ _ hpself)
  have hsent : sent = true ↔ s.line.outcome = .sent := h.sent_iff (.inr hactive)
  have hcounted {n : Nat} (hqn : q = p.setUnheardRun n) :
      t.member.selfState = .active ∧ t.member.unheardRun = n ∧ p.selfEvents q.member.selfState = [] := by
    have hqself : q.member.selfState = p.member.selfState := by rw [hqn]; rfl
    refine ⟨by rw [h.self, hqself, hpself], ?_, State.selfEvents_kept hqself⟩
    rw [h.runs, hqn]
    rfl
  have hsame (hqp : q = p) : t.member.selfState = .active ∧ t.member.unheardRun = s.member.unheardRun ∧
      p.selfEvents q.member.selfState = [] := by
    refine ⟨by rw [h.self, hqp, hpself], ?_, State.selfEvents_kept (by rw [hqp])⟩
    rw [h.runs, hqp, ← hprun]
  refine ⟨fun hquiet => ?_, fun hs hknown => ?_, fun hs hpresent hunknown => ?_⟩
  · refine hsame ?_
    rw [hq]
    split
    · next hs =>
      have hnil := h.presentFrames.2 (hquiet.resolve_left (not_not.2 (hsent.1 hs)))
      rcases p.testActive_cases with ⟨-, heq⟩ | ⟨hne, -⟩ | ⟨hne, -⟩ | ⟨hne, -⟩
      · exact heq
      all_goals exact absurd hnil hne
    · rfl
  · refine hcounted ?_
    rw [hq, if_pos (hsent.2 hs)]
    have hby := h.heardBy.2 hknown
    rcases p.testActive_cases with ⟨hnil, -⟩ | ⟨-, -, heq⟩ | ⟨-, hnot, -⟩ | ⟨-, hnot, -⟩
    · obtain ⟨k, f, hf, -⟩ := hknown
      exact absurd hf (h.presentFrames.1 hnil k f)
    · exact heq
    all_goals
      rw [hby] at hnot
      cases hnot
  · rw [if_pos (hsent.2 hs)] at hq
    rcases p.testActive_cases with ⟨hnil, -⟩ | ⟨-, hby, -⟩ | ⟨-, -, hrun, heq⟩ | ⟨-, -, hrun, heq⟩
    · obtain ⟨k, f, hf⟩ := hpresent
      exact absurd hf (h.presentFrames.1 hnil k f)
    · exact absurd (h.heardBy.1 hby) hunknown
    · rw [hprun] at hrun
      refine ⟨fun hlt => by omega, fun _ => ?_⟩
      have hqf : q = p.unheardFall := hq.trans heq
      have hqself : q.member.selfState = .listen := by rw [hqf]; rfl
      refine ⟨h.falls (u := p.setFault .txUnheard) ?_ ?_ ?_ ?_ ?_, ?_, ?_⟩
      · show p.member.ownStation = _
        rw [hp]
      · show p.member.ownAxis = _
        rw [hp]
      · rw [hqf]; rfl
      · rw [hqf]; rfl
      · rw [hqf]; rfl
      · rw [h.same.faults, hqf]
        show p.faults.set .txUnheard = _
        rw [hfaults]
        rfl
      · rw [hqself]
        have hevents : p.selfEvents .listen =
            faultEvents p.faults p.timer.epoch .txUnheard ++ [evStationState p.timer.epoch .listen] :=
          (if_neg (by rw [hpself]; decide)).trans (congrArg (· ++ _) (if_neg (by rw [hpself]; decide)))
        rw [hevents, hfaults, h.epochs.2.1]
        rfl
    · rw [hprun] at hrun
      refine ⟨fun _ => ?_, fun hle => by omega⟩
      rw [← hprun]
      exact hcounted (hq.trans heq)

end

end Sys2Proof.Machine
end

section
/-! SUPPORT. JOINING and LISTEN at a close, with what each outcome leaves and its records (R90 to R93, R95, R100). -/

namespace Sys2Proof.Machine

section
variable {s a p q x t : State} {e : Option Epoch} {sent : Bool}

/-! ### JOINING -/

/-- The join run of a sending close (R93). -/
theorem ClosedBy.nextJoinRun (h : ClosedBy s a p q x t e sent) (hjoining : s.member.selfState = .joining) :
    (¬t.timer.epoch ≠ s.timer.epoch ∧ (s.knownAt t ∨ ∀ k f, ¬s.heardAt t k f) →
      p.nextJoinRun e.isSome = s.member.joinRun + 1) ∧
    (t.timer.epoch ≠ s.timer.epoch ∨ ¬s.knownAt t ∧ (∃ k f, s.heardAt t k f) → p.nextJoinRun e.isSome = 0) := by
  have hrun : p.member.joinRun = s.member.joinRun := by
    rw [(h.kept fun hactive => by rw [hactive] at hjoining; cases hjoining).1]
  have hrunEq : p.nextJoinRun e.isSome = if e.isSome then 0 else if p.heardBy p.presentFrames then s.member.joinRun + 1
      else if p.admittedFrames.isEmpty then s.member.joinRun + 1 else 0 := by rw [State.nextJoinRun, hrun]
  rw [hrunEq]
  constructor
  · rintro ⟨hno, hfound⟩
    rw [h.adopted_iff] at hno
    rw [if_neg hno]
    by_cases hby : p.heardBy p.presentFrames = true
    · exact if_pos hby
    · rw [if_neg hby]
      refine if_pos ?_
      rw [h.admittedFrames.2 (hfound.resolve_left fun hk => hby (h.heardBy.2 hk))]
      rfl
  · rintro (hyes | ⟨hunknown, k, f, hf⟩)
    · exact if_pos (h.adopted_iff.1 hyes)
    · rw [if_neg fun hby => hunknown (h.heardBy.1 hby), if_neg fun hempty =>
        h.admittedFrames.1 (List.isEmpty_iff.1 hempty) k f hf]
      exact ite_self 0

theorem ClosedBy.joining (h : ClosedBy s a p q x t e sent) (hjoining : s.member.selfState = .joining) :
    (s.line.outcome ≠ .sent → t.member.selfState = .joining ∧ t.member.joinRun = s.member.joinRun ∧
      t.member.joinEpochs = s.member.joinEpochs ∧ p.selfEvents q.member.selfState = []) ∧
    (s.line.outcome = .sent → ∃ run,
      (¬t.timer.epoch ≠ s.timer.epoch ∧ (s.knownAt t ∨ ∀ k f, ¬s.heardAt t k f) → run = s.member.joinRun + 1) ∧
      (t.timer.epoch ≠ s.timer.epoch ∨ ¬s.knownAt t ∧ (∃ k f, s.heardAt t k f) → run = 0) ∧
      (3 ≤ run → t.member.selfState = .active ∧ t.member.unheardRun = 0 ∧
        p.selfEvents q.member.selfState = [evStationState t.timer.epoch .active]) ∧
      (run < 3 → 15 ≤ s.member.joinEpochs → s.fallsAt t ∧
        p.selfEvents q.member.selfState = [evPlain .joinFailed t.timer.epoch, evStationState t.timer.epoch .listen]) ∧
      (run < 3 → s.member.joinEpochs < 15 → t.member.selfState = .joining ∧ t.member.joinRun = run ∧
        t.member.joinEpochs = s.member.joinEpochs + 1 ∧ p.selfEvents q.member.selfState = [])) := by
  obtain ⟨hp, -⟩ := h.kept fun hactive => by rw [hactive] at hjoining; cases hjoining
  have hpself : p.member.selfState = .joining := by rw [hp, hjoining]
  have hepochs : p.member.joinEpochs = s.member.joinEpochs := by rw [hp]
  have hepoch := h.epochs.2.1
  have hq : q = if s.member.selfState = .joining ∧ sent then p.testJoining e.isSome else p :=
    h.tested.trans (State.testSelf_joining _ _ _ hpself)
  have hsent : sent = true ↔ s.line.outcome = .sent := h.sent_iff (.inl hjoining)
  refine ⟨fun hnot => ?_, fun hs => ?_⟩
  · have hqp : q = p := hq.trans (if_neg fun hc => hnot (hsent.1 hc.2))
    refine ⟨by rw [h.self, hqp, hpself], ?_, ?_, State.selfEvents_kept (by rw [hqp])⟩
    · rw [h.runs, hqp, hp]
    · rw [h.runs, hqp, hp]
  obtain ⟨hgrows, hrestarts⟩ := h.nextJoinRun hjoining
  rw [if_pos ⟨hjoining, hsent.2 hs⟩] at hq
  have hcases := p.testJoining_cases e.isSome
  generalize p.nextJoinRun e.isSome = run at *
  rw [hepochs] at hcases
  refine ⟨run, hgrows, hrestarts, ?_⟩
  rcases hcases with ⟨hr, heq⟩ | ⟨hr, hc, heq⟩ | ⟨hr, hc, heq⟩
  · refine ⟨fun _ => ?_, fun hlt => by omega, fun hlt => by omega⟩
    rw [heq] at hq
    have hqself : q.member.selfState = .active := by rw [hq]; rfl
    have hevents : p.selfEvents .active = [evStationState p.timer.epoch .active] := if_neg (by rw [hpself]; decide)
    refine ⟨by rw [h.self, hqself], ?_, by rw [hqself, hevents, hepoch]⟩
    rw [h.runs, hq]
    rfl
  · refine ⟨fun hle => by omega, fun _ _ => ?_, fun _ hlt => by omega⟩
    rw [heq] at hq
    have hqself : q.member.selfState = .listen := by rw [hq]; rfl
    have hevents : p.selfEvents .listen = [evPlain .joinFailed p.timer.epoch, evStationState p.timer.epoch .listen] :=
      (if_neg (by rw [hpself]; decide)).trans (congrArg (· ++ _) (if_pos hpself))
    refine ⟨h.falls (u := p.setJoinRuns run (s.member.joinEpochs + 1)) ?_ ?_ ?_ ?_ ?_, by rw [hqself, hevents, hepoch]⟩
    · show p.member.ownStation = _
      rw [hp]
    · show p.member.ownAxis = _
      rw [hp]
    · rw [hq]; rfl
    · rw [hq]; rfl
    · rw [hq]; rfl
  · refine ⟨fun hle => by omega, fun _ hle => by omega, fun _ _ => ?_⟩
    rw [heq] at hq
    have hqself : q.member.selfState = p.member.selfState := by rw [hq]; rfl
    refine ⟨by rw [h.self, hqself, hpself], ?_, ?_, State.selfEvents_kept hqself⟩
    · rw [h.runs, hq]
      rfl
    · rw [h.runs, hq]
      rfl

/-! ### LISTEN -/

/-- A plan-mismatch close admits no frame (R83, R91). -/
theorem State.not_heard_of_mismatch {s t : State} (hm : s.mismatchAt) (k : Station) (f : FrameRecord) : ¬s.heardAt t k f := by
  rintro ⟨hrecord, -⟩
  by_cases hk : k.toNat < s.line.buffer.length
  · refine (hm.2 _ (List.getElem_mem hk)).2.2 f ?_
    rw [← hrecord, LineController.record, List.getD_eq_getElem?_getD, List.getElem?_eq_getElem hk]
    rfl
  · rw [LineController.record, List.getD_eq_default _ _ (Nat.le_of_not_lt hk)] at hrecord
    cases hrecord

theorem ClosedBy.listen (h : ClosedBy s a p q x t e sent) (hlisten : s.member.selfState = .listen) :
    (s.mismatchAt → 7 ≤ s.member.mismatchRun → t.member.selfState = .lockout ∧ t.timer.deadline = none ∧
      t.faults = ⟨s.faults.held ||| 0b0100000000#10, true⟩ ∧
      p.selfEvents q.member.selfState = (if s.faults.held.getLsbD 8 then [] else [evFaultHeld t.timer.epoch .planMismatch])
        ++ evStationState t.timer.epoch .lockout :: s.abortedAt t .lockout) ∧
    (s.mismatchAt → s.member.mismatchRun < 7 → t.member.selfState = .listen ∧ t.member.listenRun = 0 ∧
      t.member.mismatchRun = s.member.mismatchRun + 1 ∧ p.selfEvents q.member.selfState = []) ∧
    (¬s.mismatchAt → (∀ k f, ¬s.heardAt t k f) →
      t.member.selfState = .listen ∧ t.member.listenRun = 0 ∧ t.member.mismatchRun = 0 ∧
        p.selfEvents q.member.selfState = []) ∧
    ((∃ k f, s.heardAt t k f) → (s.member.listenRun ≠ 1 ∨ t.timer.epoch ≠ s.timer.epoch) →
      t.member.selfState = .listen ∧ t.member.listenRun = 1 ∧ t.member.mismatchRun = 0 ∧
        p.selfEvents q.member.selfState = []) ∧
    ((∃ k f, s.heardAt t k f) → s.member.listenRun = 1 → ¬t.timer.epoch ≠ s.timer.epoch →
      s.joinsAt t ∧ t.member.listenRun = 0 ∧ t.member.mismatchRun = 0 ∧
        p.selfEvents q.member.selfState = evStationState t.timer.epoch .joining :: s.abortedAt t .state) := by
  obtain ⟨hp, htests, hfaults⟩ := h.kept fun hactive => by rw [hactive] at hlisten; cases hlisten
  have hpself : p.member.selfState = .listen := by rw [hp, hlisten]
  have hplisten : p.member.listenRun = s.member.listenRun := by rw [hp]
  have hpmismatch : p.member.mismatchRun = s.member.mismatchRun := by rw [hp]
  have hepoch := h.epochs.2.1
  have hq : q = p.testListen e.isSome := h.tested.trans (State.testSelf_listen _ _ _ hpself)
  have hclose : mismatchClose p.line.buffer = true ↔ s.mismatchAt := by
    rw [h.buffer]
    exact mismatchClose_iff _
  have hcount : p.countMismatch.member.mismatchRun = if mismatchClose p.line.buffer then s.member.mismatchRun + 1 else 0 := by
    rw [← hpmismatch]
    rfl
  have hcounts (hm : s.mismatchAt) : p.countMismatch.member.mismatchRun = s.member.mismatchRun + 1 :=
    hcount.trans (if_pos (hclose.2 hm))
  have hrestarts (hm : ¬s.mismatchAt) : p.countMismatch.member.mismatchRun = 0 :=
    hcount.trans (if_neg fun hc => hm (hclose.1 hc))
  have hmatches (hheard : ∃ k f, s.heardAt t k f) : ¬s.mismatchAt := fun hm => by
    obtain ⟨k, f, hf⟩ := hheard
    exact State.not_heard_of_mismatch hm k f hf
  have hset {n : Nat} (hqn : q = p.countMismatch.setListenRun n) : t.member.selfState = .listen ∧ t.member.listenRun = n ∧
      t.member.mismatchRun = p.countMismatch.member.mismatchRun ∧ p.selfEvents q.member.selfState = [] := by
    have hqself : q.member.selfState = p.member.selfState := by rw [hqn]; rfl
    refine ⟨by rw [h.self, hqself, hpself], ?_, ?_, State.selfEvents_kept hqself⟩
    · rw [h.runs, hqn]
      rfl
    · rw [h.runs, hqn]
      rfl
  have hcases := p.testListen_cases e.isSome
  rw [← hq, hplisten, ne_eq, h.admittedFrames] at hcases
  refine ⟨fun hm hrun => ?_, fun hm hrun => ?_, fun hm hquiet => ?_, fun hheard hother => ?_, fun hheard hrun hno => ?_⟩
  · have hr8 := hcounts hm
    rcases hcases with ⟨-, heq⟩ | ⟨hr, -⟩ | ⟨hr, -⟩ | ⟨hr, -⟩
    · have hqself : q.member.selfState = .lockout := by rw [heq, State.mismatchLockout_selfState]
      have hv : q.member.selfState.votes = false := by rw [hqself]; rfl
      have hevents : p.selfEvents .lockout = faultEvents p.faults p.timer.epoch .planMismatch ++ p.lockoutEvents :=
        if_neg (by rw [hpself]; decide)
      refine ⟨by rw [h.self, hqself], ?_, ?_, ?_⟩
      · rw [h.stays hv, heq, p.countMismatch.mismatchLockout_blocks.2.1]
      · rw [h.same.faults, heq, State.mismatchLockout_faults]
        show p.faults.set .planMismatch = _
        rw [hfaults]
        rfl
      · rw [hqself, hevents, State.lockoutEvents, State.abortEvents_eq htests hepoch .lockout, hfaults, hepoch]
        rfl
    all_goals omega
  · have hr8 := hcounts hm
    have hnone := State.not_heard_of_mismatch (t := t) hm
    rcases hcases with ⟨hr, -⟩ | ⟨-, -, heq⟩ | ⟨-, hsome, -⟩ | ⟨-, hsome, -⟩
    · omega
    · rw [← hr8]
      exact hset heq
    all_goals exact absurd hnone hsome
  · have hr0 := hrestarts hm
    rcases hcases with ⟨hr, -⟩ | ⟨-, -, heq⟩ | ⟨-, hsome, -⟩ | ⟨-, hsome, -⟩
    · omega
    · obtain ⟨hself, hrun, hcount0, hevents⟩ := hset heq
      exact ⟨hself, hrun, hcount0.trans hr0, hevents⟩
    all_goals exact absurd hquiet hsome
  · have hr0 := hrestarts (hmatches hheard)
    obtain ⟨k, f, hf⟩ := hheard
    rcases hcases with ⟨hr, -⟩ | ⟨-, hnone, -⟩ | ⟨-, -, hone, hno, -⟩ | ⟨-, -, -, heq⟩
    · omega
    · exact absurd hf (hnone k f)
    · rcases hother with hother | hother
      · exact absurd hone hother
      · rw [h.adopted_iff, hno] at hother
        cases hother
    · rw [← hr0]
      exact hset heq
  · have hr0 := hrestarts (hmatches hheard)
    obtain ⟨k, f, hf⟩ := hheard
    have he : e.isSome = false := by
      rw [h.adopted_iff] at hno
      simpa using hno
    rcases hcases with ⟨hr, -⟩ | ⟨-, hnone, -⟩ | ⟨-, -, -, -, heq⟩ | ⟨-, -, hnot, -⟩
    · omega
    · exact absurd hf (hnone k f)
    · have hjoined : Joined p.countMismatch q := by
        rw [heq]
        exact State.join_joined _
      have hmember : p.countMismatch.join.member = _ := State.enterJoining_member p.countMismatch
      have hevents : p.selfEvents .joining = p.joiningEvents := if_neg (by rw [hpself]; decide)
      have hcself : p.countMismatch.member.selfState = .listen := hpself
      refine ⟨h.joins hjoined ?_ htests hepoch, ?_, ?_, ?_⟩
      · show p.timer.origin = _
        rw [h.steps.peers.timer]
        exact h.steps.adopted.origin
      · rw [h.runs, heq, hmember]
        exact if_pos hcself
      · rw [h.runs, heq, hmember]
        exact if_pos hcself
      · rw [hjoined.self, hevents, State.joiningEvents, State.abortEvents_eq htests hepoch .state, hepoch]
    · exact absurd ⟨hrun, he⟩ hnot

end

end Sys2Proof.Machine
end

section
/-! OBLIGATION O25. The self state a close leaves, its records, and the delivery of the Admission List to a vote. -/

namespace Sys2Proof.Machine

/-! ### The kinds of the records of steps 2 and 4 -/

theorem State.peerEvents_kinds (s : State) (k : Station) :
    ∀ r ∈ s.peerEvents k, r.kind ∈ [EventKind.peerJoined, .peerLost, .rowState] := by
  intro r hr
  unfold State.peerEvents State.peerRecords at hr
  have hrow {c : Bool} {b : Axis} (h : r ∈ if c then [evRowState s.timer.epoch b.toNat .unbound (rowOf s.engine.rows b).stale]
      else []) : r.kind = .rowState := by
    split at h
    · rw [List.mem_singleton.1 h]; rfl
    · cases h
  split at hr
  · cases hr
  split at hr
  · rcases List.mem_append.1 hr with hr | hr
    · rw [hrow hr]; decide
    · split at hr
      · rw [List.mem_singleton.1 hr]
        show EventKind.peerJoined ∈ _
        decide
      · cases hr
  · rcases List.mem_append.1 hr with hr | hr
    · split at hr
      · rw [List.mem_singleton.1 hr]
        show EventKind.peerLost ∈ _
        decide
      · cases hr
    · rw [hrow hr]; decide

theorem State.wantsEvents_kinds (q : State) (k : Station) :
    ∀ r ∈ q.wantsEvents k, r.kind ∈ [EventKind.sourceRefused, .rowState] := by
  intro r hr
  unfold State.wantsEvents State.claimEvents at hr
  split at hr
  · split at hr
    · split at hr
      · split at hr
        · rw [List.mem_singleton.1 hr]
          show EventKind.rowState ∈ _
          decide
        · cases hr
      · split at hr
        · cases hr
        · rw [List.mem_singleton.1 hr]
          show EventKind.sourceRefused ∈ _
          decide
    · cases hr
  · cases hr

/-! ### The delivery -/

section
variable {s a p q x t : State} {e : Option Epoch} {sent : Bool}

/-- What a close that ends outside LOCKOUT keeps of the clock, the slots' records and the sensor's own fields. -/
theorem ClosedBy.frame (h : ClosedBy s a p q x t e sent) (hlockout : q.member.selfState ≠ .lockout) :
    q.clock = s.clock ∧ q.line.buffer = s.line.buffer ∧ q.sensor.sample = s.sensor.sample ∧
      q.sensor.underTest = s.sensor.underTest := by
  have hsame := (h.steps.adopted.entry.trans h.steps.updated.entry).trans (h.steps.tested.kept.1 hlockout)
  refine ⟨hsame.clock, ?_, ?_, ?_⟩
  · rw [hsame.line]
    rfl
  · rw [hsame.sensor]
    rfl
  · rw [hsame.sensor]
    rfl

theorem ClosedBy.delivered (h : ClosedBy s a p q x t e sent) (hv : q.member.selfState.votes = true) :
    t = x.deliver (x.admissionList s.member.selfState) ∧ x.clock = s.clock ∧ x.sensor.sample = s.sensor.sample ∧
      x.sensor.underTest = s.sensor.underTest ∧ (∀ k f, x.admitted k = some f ↔ s.heardAt t k f) ∧
      x.member.ownStation = s.member.ownStation ∧ x.member.ownAxis = s.member.ownAxis := by
  obtain ⟨hclock, hbuffer, hsample, hunder⟩ := h.frame ((SelfState.votes_iff _).1 hv).2
  have ht := h.ended
  rw [if_pos hv] at ht
  have hx : x.clock = q.clock ∧ x.line = q.line ∧ x.sensor = q.sensor := by
    have hsame := h.same
    rw [ht] at hsame
    exact ⟨hsame.clock, hsame.line, hsame.sensor⟩
  obtain ⟨hxclock, hxline, hxsensor⟩ := hx
  refine ⟨ht, hxclock.trans hclock, by rw [hxsensor, hsample], by rw [hxsensor, hunder], fun k f => ?_, h.steps.station.2, ?_⟩
  · rw [State.admitted_eq_some, ← h.timer, LineController.record, hxline, hbuffer]
    rfl
  · rw [h.steps.claimed.member]
    exact (h.steps.table (AdmissionSteps.fall_of_votes hv)).axis

/-- The samples a close delivers to a source (R8, R102). -/
theorem ClosedBy.samples (h : ClosedBy s a p q x t e sent) (hv : q.member.selfState.votes = true) (b : Axis) (src : Source)
    (hsrc : src ∈ (rowOf t.engine.rows b).sources) :
    (src.station ≠ s.member.ownStation → ∀ f, s.heardAt t src.station f → f.axis = b →
      src.sample = some ⟨f.angle, f.velocity, f.state == .active && f.flags == ⟨false, false, false⟩⟩) ∧
    (src.station ≠ s.member.ownStation → (∀ f, s.heardAt t src.station f → f.axis ≠ b) → src.sample = none) ∧
    (src.station = s.member.ownStation → (t.member.selfState = .joining ∨ t.member.selfState = .active) →
      b = s.member.ownAxis → src.sample = some ⟨s.sensor.sample.angle, s.sensor.sample.velocity,
        s.member.selfState == .active && t.member.selfState == .active && !s.sensor.underTest
          && !s.sensor.sample.settling && !s.sensor.sample.sensorFault⟩) ∧
    (src.station = s.member.ownStation → ((t.member.selfState ≠ .joining ∧ t.member.selfState ≠ .active) ∨
      b ≠ s.member.ownAxis) → src.sample = none) := by
  obtain ⟨ht, -, hsample, hunder, hadmitted, hstation, haxis⟩ := h.delivered hv
  have hself : x.member.selfState = t.member.selfState := by rw [h.member]
  have hownNone : x.admitted x.member.ownStation = none := by
    rw [Option.eq_none_iff_forall_ne_some, hstation]
    exact fun f hf => h.own f ((hadmitted _ f).1 hf).1
  have hrow : (rowOf t.engine.rows b).sources =
      (rowOf x.engine.rows b).sources.map fun src => src.place b.toNat (x.admissionList s.member.selfState) := by
    rw [ht, State.deliver_rows, rowOf_placeFrom]
    rfl
  rw [hrow] at hsrc
  obtain ⟨src, -, rfl⟩ := List.mem_map.1 hsrc
  obtain ⟨hpeer, hpeerNone, hown, hownNot⟩ := State.place_admissionList hownNone s.member.selfState src b
  rw [hstation] at hpeer hpeerNone hown hownNot
  rw [haxis, hself, SelfState.member_iff] at hown
  rw [haxis, hself, ← Bool.not_eq_true, SelfState.member_iff, not_or] at hownNot
  refine ⟨fun hne f hf haxis => ?_, fun hne hf => hpeerNone hne fun f hx => hf f ((hadmitted _ f).1 hx),
    fun heq hst haxis => ?_, hownNot⟩
  · rw [hpeer hne f ((hadmitted _ f).2 hf) haxis, FrameRecord.usable_eq]
  · rw [hown heq hst haxis, State.ownEntry, hsample, hunder, hself]

end

/-- Settles O25. -/
theorem closeStartsVote : Obligations.CloseStartsVote := by
  intro s hseen hself htime hpos hvote htable hpeers hlisted hown
  have h := State.closedBy hself htable hpeers hlisted hown
  have hexec := exec_close hseen hself htime hpos
  generalize s.closed.admission s.handsSent = t at *
  generalize (s.closed.selfTested s.handsSent).claimed = x at *
  generalize s.closed.selfTested s.handsSent = q at *
  generalize s.closed.peersUpdated s.handsSent = p at *
  generalize s.closed.adopt (s.closed.adoption s.handsSent) = a at *
  generalize s.closed.adoption s.handsSent = e at *
  generalize s.handsSent = sent at *
  refine ⟨t, s.adoptEvents e, allStations.flatMap a.peerEvents, p.selfEvents q.member.selfState,
    allStations.flatMap q.wantsEvents, hexec, h.port.trans h.steps.port, ?_⟩
  intro own adopted heard present known mismatch aborted joins falls
  refine ⟨?_, ?_, fun hno => ?_, fun hyes hother => ?_,
    fun hactive => ⟨h.active_adopts hactive, fun hno => (h.active_goes_on hactive hno).1,
      fun hno => (h.active_goes_on hactive hno).2.1, fun hno => (h.active_goes_on hactive hno).2.2⟩,
    h.joining, h.listen, fun hother => ?_, fun hvotes => ?_, fun hends => ?_⟩
  · intro r hr
    obtain ⟨k, -, hr⟩ := List.mem_flatMap.1 hr
    exact State.peerEvents_kinds a k r hr
  · intro r hr
    obtain ⟨k, -, hr⟩ := List.mem_flatMap.1 hr
    exact State.wantsEvents_kinds q k r hr
  · rw [h.adopted_none hno]
    rfl
  · obtain ⟨v, rfl⟩ := Option.isSome_iff_exists.1 (h.adopted_iff.1 hyes)
    rw [State.adoptEvents, if_neg hother, h.epochs.2.2]
    rfl
  · obtain ⟨hp, -⟩ := h.kept fun hactive => by rw [hactive] at hother; rcases hother with h | h <;> cases h
    have hpself : p.member.selfState = s.member.selfState := by rw [hp]
    have hqp : q = p := by rw [h.tested, State.testSelf_other _ _ _ (by rw [hpself]; exact hother)]
    refine ⟨?_, State.selfEvents_kept (by rw [hqp])⟩
    rw [h.self, hqp, hpself]
  · have hv : q.member.selfState.votes = true := (SelfState.votes_iff _).2 (by rw [← h.self]; exact hvotes)
    obtain ⟨ht, hclock, -⟩ := h.delivered hv
    refine ⟨?_, h.samples hv⟩
    rw [ht, ← hclock]
    rfl
  · have hv : q.member.selfState.votes = false := by
      rw [Bool.eq_false_iff, Ne, SelfState.votes_iff, ← h.self]
      tauto
    refine ⟨?_, List.flatMap_eq_nil_iff.2 fun k _ => if_neg (Bool.eq_false_iff.1 hv)⟩
    rw [h.stays hv]
    refine h.steps.tested.vote ?_
    rw [h.steps.peers.vote, h.steps.adopted.engine]
    exact hvote

end Sys2Proof.Machine
end
